-- ==== Sys2Proof/Word.lean ====
section
/-! DEFINITION. The word types of the CR80MX: what spec/ treats as bits.
Bit-field helpers are in Sys2Proof/Machine/Bits.lean. -/

namespace Sys2Proof

/-- A 16-bit word: a register, a memory word, an instruction, an address inside a page (R30, R89, R120). -/
abbrev Word := BitVec 16

/-- An 8-bit byte: half a memory word, a page number, the system program map register (R55, R80, R90). -/
abbrev Byte := BitVec 8

/-- A general register's number, 0 to 7 (R30). Its successor is the number plus one, modulo 8 (R32). -/
abbrev RegNum := BitVec 3

end Sys2Proof
end

