-- ==== Sys2Proof/Machine/Bits.lean ====
section
/-! DEFINITION. Bit fields, sign extension and byte order, in one place. -/

namespace Sys2Proof.Machine

/-- `w` with the bits from `lo` up replaced by `v` (the manual's field insertion, R20, R21). -/
def insertBits {n : Nat} (w : Word) (lo : Nat) (v : BitVec n) : Word :=
  (w &&& ~~~((BitVec.allOnes n).setWidth 16 <<< lo)) ||| (v.setWidth 16 <<< lo)

/-- The byte at the even byte address of a word, bits 7:0 (R90). -/
def lowByte (w : Word) : Byte := w.extractLsb' 0 8

/-- The byte at the odd byte address of a word, bits 15:8 (R90). -/
def highByte (w : Word) : Byte := w.extractLsb' 8 8

/-- A word from its high and its low byte (R90). -/
def wordOf (high low : Byte) : Word := high ++ low

/-- `w` with bit `n` set (R292). -/
def setBit (w : Word) (n : Nat) : Word := w ||| (1#16 <<< n)

/-- `w` with bit `n` cleared (R291). -/
def clearBit (w : Word) (n : Nat) : Word := w &&& ~~~(1#16 <<< n)

/-- Bits n:0 kept, bits 15:n+1 copies of bit n (R236). -/
def signExtendFrom (n : Nat) (w : Word) : Word := (w <<< (15 - n)).sshiftRight (15 - n)

/-- The n low bits, zeros above; 0 for n = 0 (R237). -/
def lowBits (n : Nat) (w : Word) : Word := BitVec.ofNat 16 (w.toNat % 2 ^ n)

/-- The two bytes exchanged (R231). -/
def swapBytes (w : Word) : Word := wordOf (lowByte w) (highByte w)

/-- A small field extended with zeros (R15). -/
def zext {n : Nat} (v : BitVec n) : Word := v.setWidth 16

/-- A constant field negated, as CN8, CN4, LN8, LN10 and LN4 are (R127). -/
def negated {n : Nat} (v : BitVec n) : Word := -(zext v)

end Sys2Proof.Machine
end

