-- ==== Sys2Proof/Config.lean ====
section
/-! DEFINITION. What an implementation or platform fixes (R12) as plain data, and the free values: opaque constants
that nothing in Lean can evaluate. A `Platform` stands in State, where no step changes it, so that a statement about
every state is a statement about every platform (log 8). -/

namespace Sys2Proof

/-- The eight CPU types (R2, R10, D1). -/
inductive CpuType where
  | type1 | type2 | type3 | type4 | type5 | type6 | type7 | type8
  deriving DecidableEq, Repr

/-- Where C and V stand inside PSW bits 7:4: two distinct places (R43, D9). `cPos` is PSW_C_BIT minus 4. V stands
`vGap + 1` places above C, counted round the four bits, so every layout of this type has two distinct places. -/
structure FlagLayout where
  cPos : Fin 4
  vGap : Fin 3
  deriving DecidableEq, Repr

/-- The stack pointer's advance of UNS C4, CNT or CNT + 1 (R191, D29). -/
inductive UnsAdvance where
  | cnt | cntPlusOne
  deriving DecidableEq, Repr

/-- The result of the firmware test TST (R334, D44). -/
inductive TstResult where
  | noErrors | alsFailed | amsFailed | opregFailed | pswFailed | cacheFailed
  deriving DecidableEq, Repr

/-- The two kinds of transfer error (R98). -/
inductive TransferKind where
  | parity | timeOut
  deriving DecidableEq, Repr

/-- The spaces a transfer can fail in (R80, R384): a page of absolute memory, the device space, the map memory. -/
inductive Space where
  | abs (page : Byte)
  | io
  | mapMem
  deriving DecidableEq, Repr

/-- Addresses `first` to `last` of a space at which every transfer fails with `kind`: nothing answers (time-out), or
the platform injects a parity error (R98, R354, D48; log 30). -/
structure BadRange where
  space : Space
  first : Word
  last : Word
  kind : TransferKind
  deriving DecidableEq, Repr

/-- Where a rule of ProgPage takes the page from (R83). -/
inductive PageSource where
  | page (p : Byte)
  | umapLow
  | umapHigh
  | spm
  deriving DecidableEq, Repr

/-- One rule of ProgPage. It fits when the 41 bits PG : LEVEL : UMAP : SPM agree with `pattern` in every bit of `mask`.
With a full mask a rule is one entry of a table, so a list of rules gives any function of the four inputs (R83, D18; log 9). -/
structure PageRule where
  mask : BitVec 41
  pattern : BitVec 41
  source : PageSource
  deriving DecidableEq, Repr

/-- The parameters of the platform (R12). -/
structure Platform where
  /-- `cpu_type` (R10, D1) -/
  cpu : CpuType
  /-- `cpu_number`, the CPU# of NMI (R58, D39) -/
  cpuNumber : BitVec 4
  /-- `PSW_C_BIT` and `PSW_V_BIT` (R43, D9) -/
  flags : FlagLayout
  /-- `uns_advance` (D29) -/
  unsAdvance : UnsAdvance
  /-- `tst_result` (D44) -/
  tstResult : TstResult
  /-- `ProgPage` (D18): the first rule that fits decides, -/
  pageRules : List PageRule
  /-- and this page where none fits -/
  defaultPage : Byte
  /-- the addresses that do not answer, or answer with a parity error (D23, D48) -/
  badRanges : List BadRange
  /-- the step budget of a run (R441, D24) -/
  stepBudget : Nat
  /-- the end address of a run, where the platform designates one (R441, D24) -/
  endAddress : Option Word
  deriving DecidableEq, Repr

/-- The n-th free value (U5, U7, U8): some word, which nothing constrains. State.freeCtr says which n comes next (log 10). -/
opaque Config.freeWord : Nat → Word

/-- `Syndrome(page, address)` of ARSC (R371, D50, U17): its encoding is not given (log 14). -/
opaque Config.syndrome : Byte → Word → Word

end Sys2Proof
end

