-- ==== Sys2Proof/Machine/State.lean ====
section
/-! DEFINITION. The state of the machine: everything spec/ gives one CPU and its surroundings, as plain data
(INVENTORY.md, State), the reasons a step can stop, and the state after reset. -/

namespace Sys2Proof.Machine

/-- Memory as a list of (byte address, byte) pairs. A word at word index i has its low byte (R90: the even one) at
byte address 2i and its high byte at 2i + 1. Machine/Memory.lean says what an unlisted address reads as. -/
structure Memory where
  cells : List Host.Cell
  deriving DecidableEq, Repr

/-- The kinds of I/O transfer a device can tell apart (R300, D32). -/
inductive IoKind where
  | sio | cio | rio | wio | drd | dwr
  deriving DecidableEq, Repr

/-- How a device answers a transfer: with a word (which an output transfer ignores), or not properly (R98). -/
inductive IoResult where
  | answered (v : Word)
  | failed (k : TransferKind)
  deriving DecidableEq, Repr

/-- One answer that a device has ready for one transfer of one kind (the IO oracle of D32; log 16). -/
structure IoReply where
  kind : IoKind
  dev : Word
  result : IoResult
  deriving DecidableEq, Repr

/-- What the machine does to the outside, in its output trace (R300, R329, R330). -/
inductive Event where
  /-- an input transfer of `v` from device address `dev` -/
  | ioIn (kind : IoKind) (dev v : Word)
  /-- an output transfer of `v` to device address `dev` -/
  | ioOut (kind : IoKind) (dev v : Word)
  /-- `NotifyVector(v)` of the instruction CPU (R329) -/
  | notifyVector (v : Word)
  /-- `IssueNMI` of the instruction NMI (R330) -/
  | issueNmi
  deriving DecidableEq, Repr

/-- The state of the machine. Each field's rule is in INVENTORY.md, State. -/
structure State where
  /-- the general registers `x[0]` to `x[7]` (R30) -/
  x : Vector Word 8
  /-- the location counter LOC (R33) -/
  pc : Word
  /-- the base register BASE (R36) -/
  base : Word
  /-- the program base register PROG (R36) -/
  prog : Word
  /-- the modify register MOD (R37) -/
  mod : Word
  /-- the boolean MODIFIED (R37) -/
  modified : Bool
  /-- the process status word (R40) -/
  psw : Word
  /-- the timer register (R51) -/
  timer : Word
  /-- the bound register (R52) -/
  bound : Word
  /-- the level register (R53) -/
  level : Word
  /-- the user map register (R54) -/
  umap : Word
  /-- the system program map register (R55) -/
  spm : Byte
  /-- the cache enable (R56) -/
  cacheOn : Bool
  /-- semaphore blocking (R57) -/
  semBlock : Bool
  /-- the INSTR of XCU and XCUI, waiting to be executed at `pc` (R324; log 19) -/
  instr : Option Word
  /-- the CPU awaits an NMI notification (R330; log 20) -/
  awaitingNmi : Bool
  /-- absolute memory, 256 pages of 65536 words (R80) -/
  mem : Memory
  /-- the map memory (R88, R367) -/
  mapMem : Memory
  /-- the answers the devices still have to give (D32; log 16) -/
  ioReplies : List IoReply
  /-- the output trace, latest event first (log 17) -/
  trace : List Event
  /-- the model's own count of free values drawn (log 10) -/
  freeCtr : Nat
  /-- the parameters of the platform, constant (R12; log 8) -/
  plat : Platform
  deriving DecidableEq, Repr

/-- Why a step stops with a fault. Each carries the state reached (D21): what the instruction did before the fault
is done, nothing later is (R380, R384; log 21). Stopping is safe: nothing is claimed of what follows. -/
inductive Fault where
  /-- `InternalInterrupt(cause)`: raised by TRP, and by MRD and MWR on CPU type 8 (R380, R381). Safe: the entry is not described. -/
  | internalInterrupt (cause : Nat) (reached : State)
  /-- `TransferError(kind, space, address)`: raised by a failing access outside the error exits (R384). Safe: what
  serving the error does is not described. -/
  | transferError (kind : TransferKind) (space : Space) (address : Word) (reached : State)
  /-- `UnassignedEncoding(word)`: raised by the step on a word outside the active map of the CPU type (R153, R154). Safe. -/
  | unassignedEncoding (word : Word) (reached : State)
  /-- `AwaitingNMI`: raised by the step of a CPU that NMI has stopped (R330, U18). Safe: only a platform action goes on. -/
  | awaitingNmi (reached : State)
  deriving DecidableEq, Repr

/-- Why a step has no meaning. Refusing is safe: nothing is claimed of the state after. -/
inductive Refusal where
  /-- raised by an arm of exec that has no meaning yet -/
  | notModelled (mnemonic : String)
  /-- raised by STC C4 and UNS C4 with C4 < 8, which would name registers 8 to 15 (R190, R191, D30, U10; log 23) -/
  | noSuchRegister (c4 : BitVec 4)
  /-- raised by JON and JOZ while MODIFIED is true (R207, R208, D14, U11; log 22) -/
  | jumpWhileModified
  /-- raised by `State.launch` on a launch state that does not meet R421 (U14; log 38) -/
  | launchState
  deriving DecidableEq, Repr

/-- The platform of the state after reset: the parameters in force for the spec's own test vectors (95_test_vectors.md, part 2;
log 8), with a step budget and no end address of the model's choice (log 38). -/
def platformAtReset : Platform where
  cpu := .type8
  cpuNumber := 0
  flags := ⟨0, 0⟩
  unsAdvance := .cnt
  tstResult := .noErrors
  pageRules := []
  defaultPage := 0
  badRanges := []
  stepBudget := 65536
  endAddress := none

/-- The machine right after reset. D00 gives no reset value (R61, R420): this is one launch state that meets R421, every
other value being a design choice (log 1 to 8, 16 to 20, 38). -/
def State.reset : State where
  x := Vector.replicate 8 0
  pc := 0
  base := 0
  prog := 0
  mod := 0
  modified := false
  psw := 0x0001
  timer := 0
  bound := 0
  level := 0
  umap := 0
  spm := 0
  cacheOn := false
  semBlock := false
  instr := none
  awaitingNmi := false
  mem := ⟨[]⟩
  mapMem := ⟨[]⟩
  ioReplies := []
  trace := []
  freeCtr := 0
  plat := platformAtReset

end Sys2Proof.Machine
end

