-- ==== Sys2Proof/Machine/Memory.lean ====
section
/-! DEFINITION. Reading and writing the byte list that is memory, in one canonical form: addresses strictly rising, and
no entry equal to what an unlisted address reads as. -/

namespace Sys2Proof.Machine

/-- What a byte that nothing has written reads as. DESIGN CHOICE, unsafe (log 7): the spec gives no content of memory
before the launch image (R61). -/
def unlisted : Byte := 0

/-- The byte listed at an address, or `unlisted`. -/
def readCells : List Host.Cell → Nat → Byte
  | [], _ => unlisted
  | c :: t, a => if c.1 = a then c.2 else readCells t a

/-- The list with a cell put before the first higher address. -/
def insertCell (c : Host.Cell) : List Host.Cell → List Host.Cell
  | [] => [c]
  | d :: t => if c.1 < d.1 then c :: d :: t else d :: insertCell c t

/-- The list without its entries at an address. -/
def eraseCells : List Host.Cell → Nat → List Host.Cell
  | [], _ => []
  | c :: t, a => if c.1 = a then eraseCells t a else c :: eraseCells t a

/-- Memory after a byte is written: writing what an unlisted address reads as removes the entry. -/
def Memory.writeByte (m : Memory) (a : Nat) (v : Byte) : Memory :=
  ⟨if v = unlisted then eraseCells m.cells a else insertCell (a, v) (eraseCells m.cells a)⟩

/-- The byte at a byte address. -/
def Memory.readByte (m : Memory) (a : Nat) : Byte := readCells m.cells a

/-- The word at a word index: its low byte at the even byte address (R90). -/
def Memory.readWord (m : Memory) (i : Nat) : Word := wordOf (m.readByte (2 * i + 1)) (m.readByte (2 * i))

/-- Memory after a word is written at a word index. -/
def Memory.writeWord (m : Memory) (i : Nat) (v : Word) : Memory :=
  (m.writeByte (2 * i) (lowByte v)).writeByte (2 * i + 1) (highByte v)

/-- The canonical form of a cell list whose addresses are above a bound. -/
def cellsWf : Option Nat → List Host.Cell → Bool
  | _, [] => true
  | low, c :: t => (match low with | none => true | some l => decide (l < c.1)) && decide (c.2 ≠ unlisted) && cellsWf (some c.1) t

/-- The canonical form holds: addresses strictly rising, no entry equal to what an unlisted address reads as. -/
def Memory.wf (m : Memory) : Bool := cellsWf none m.cells

/-- The word index of word address `a` of page `p` of absolute memory (R80, R86). -/
def wordIndex (p : Byte) (a : Word) : Nat := p.toNat * 65536 + a.toNat

end Sys2Proof.Machine
end

