-- ==== Sys2Proof/Machine/Ops.lean ====
section
/-! DEFINITION. The named operations over registers, PSW, program pages, memory, devices and exceptions that every
meaning is written with. An operation that can stop answers in `Run`; a stop carries the state reached. -/

namespace Sys2Proof.Machine

/-- Why an operation stops. -/
inductive Stop where
  | fault (f : Fault)
  | refused (r : Refusal)
  deriving DecidableEq, Repr

/-- The answer of an operation that can stop. -/
abbrev Run (α : Type) := Except Stop α

/-- The outcome of a step of this machine. -/
abbrev Answer := Host.Outcome State Fault Refusal

/-- A stop as the outcome of a step. -/
def Stop.outcome : Stop → Answer
  | .fault f => .fault f
  | .refused r => .refused r

/-- The answer of a whole instruction as the outcome of a step. -/
def outcome : Run State → Answer
  | .ok s => .next s
  | .error e => e.outcome

/-! ### General registers (R30) -/

/-- `x[r]` (R16). -/
def State.reg (s : State) (r : RegNum) : Word := s.x[r.toNat]'(r.isLt)

/-- `x[r] <- v` (R16). -/
def State.setReg (s : State) (r : RegNum) (v : Word) : State := { s with x := s.x.set r.toNat v r.isLt }

/-- `Succ(r)`: the register with number one higher, modulo 8 (R19, R32). -/
def succReg (r : RegNum) : RegNum := r + 1

/-- The index register of a 2-bit X2 field: register 4 + x (R124). -/
def indexReg (x : BitVec 2) : RegNum := 4 + x.setWidth 3

/-- The register of a 2-bit R2 field: registers 0 to 3 (R124). -/
def lowReg (q : BitVec 2) : RegNum := q.setWidth 3

/-- Registers 0 to n, in this order (R190, R191, R322). -/
def regsUpTo (n : Nat) : List RegNum := (List.range (n + 1)).map (BitVec.ofNat 3)

/-! ### Ending an instruction -/

/-- CLEAR MODIFICATION: `MOD <- 0; MODIFIED <- FALSE` (R19, R37). -/
def State.clearModification (s : State) : State := { s with mod := 0, modified := false }

/-- The location counter moves `n` locations on (R34). -/
def State.advance (s : State) (n : Word) : State := { s with pc := s.pc + n }

/-- The end of an ordinary instruction: ClearModification; `pc <- pc + 1` (R34). -/
def State.finish (s : State) : State := s.clearModification.advance 1

/-- The end of a jump: `pc <- t`; ClearModification. -/
def State.jumpTo (s : State) (t : Word) : State := { s.clearModification with pc := t }

/-- The program-relative link to the next instruction, `pc + 1 - PROG` (R33, R200). -/
def State.link (s : State) : Word := s.pc + 1 - s.prog

/-! ### The process status word (R40) -/

/-- `PSW.PG`, bit 0 (R41). -/
def State.pg (s : State) : Bool := s.psw.getLsbD 0

/-- `PSW.ALT`, bit 12 (R47). -/
def State.alt (s : State) : Bool := s.psw.getLsbD 12

/-- `PSW.CA`, bit 13 (R48). -/
def State.ca (s : State) : Bool := s.psw.getLsbD 13

/-- `PSW.PG <- b`. -/
def State.setPg (s : State) (b : Bool) : State := { s with psw := insertBits s.psw 0 (BitVec.ofBool b) }

/-- `PSW.ALT <- b`. -/
def State.setAlt (s : State) (b : Bool) : State := { s with psw := insertBits s.psw 12 (BitVec.ofBool b) }

/-- `PSW[15:14] <- m`, the interrupt mask bits; 3 disables all interrupts (R49). -/
def State.setMask (s : State) (m : BitVec 2) : State := { s with psw := insertBits s.psw 14 m }

/-- `LEVEL[15] <- b` (R53). -/
def State.setLevelFlag (s : State) (b : Bool) : State := { s with level := insertBits s.level 15 (BitVec.ofBool b) }

/-- `LEVEL[14:0] = 0`, the level counter (R53). -/
def counterZero (level : Word) : Bool := level.extractLsb' 0 15 == 0

/-! ### Free values -/

/-- The next free value (log 10). -/
def State.free (s : State) (k : Nat) : Word := Config.freeWord (s.freeCtr + k)

/-- `n` free values have been used. -/
def State.drawn (s : State) (n : Nat) : State := { s with freeCtr := s.freeCtr + n }

/-! ### Pages (R80, R83, R85) -/

/-- The page that a rule of ProgPage names. -/
def sourcePage (umap : Word) (spm : Byte) : PageSource → Byte
  | .page p => p
  | .umapLow => lowByte umap
  | .umapHigh => highByte umap
  | .spm => spm

/-- The inputs of ProgPage as one number, PG : LEVEL : UMAP : SPM. -/
def pageKey (pg : Bool) (level umap : Word) (spm : Byte) : BitVec 41 := BitVec.ofBool pg ++ level ++ umap ++ spm

/-- `ProgPage(PG, LEVEL, UMAP, SPM)` of the platform (R83, D18). -/
def progPage (p : Platform) (pg : Bool) (level umap : Word) (spm : Byte) : Byte :=
  match p.pageRules.find? (fun r => pageKey pg level umap spm &&& r.mask == r.pattern) with
  | some r => sourcePage umap spm r.source
  | none => p.defaultPage

/-- The page instructions are fetched from, PROG_CUR (R83). -/
def State.progCur (s : State) : Byte := progPage s.plat s.pg s.level s.umap s.spm

/-- The user program page PROG_USER: ProgPage at PG = 1, LEVEL = 0 (R83). -/
def State.progUser (s : State) : Byte := progPage s.plat true 0 s.umap s.spm

/-- The system program page PROG_SYS: ProgPage at a non-zero level counter (R83). The model takes PG = 0, LEVEL = 1
(DEDUCED, log 9). -/
def State.progSys (s : State) : Byte := progPage s.plat false 1 s.umap s.spm

/-- The data page, UMAP[7:0] (R85). -/
def State.dataPage (s : State) : Byte := lowByte s.umap

/-! ### Transfers (R98, R100) -/

/-- How a transfer at an address fails, if it does (R98, R384). -/
def transferFailure (p : Platform) (sp : Space) (a : Word) : Option TransferKind :=
  (p.badRanges.find? (fun r => r.space == sp && decide (r.first ≤ a) && decide (a ≤ r.last))).map (·.kind)

/-- `TransferError(kind, space, address)` with the state reached (R384). -/
def transferError {α : Type} (k : TransferKind) (sp : Space) (a : Word) (s : State) : Run α :=
  .error (.fault (.transferError k sp a s))

/-- A transfer at an address goes through, or stops. -/
def State.access (s : State) (sp : Space) (a : Word) : Run Unit :=
  match transferFailure s.plat sp a with
  | none => .ok ()
  | some k => transferError k sp a s

/-- `MemRead(ABS(p), a, 16)` (R17). -/
def State.load (s : State) (p : Byte) (a : Word) : Run Word := do
  s.access (.abs p) a
  pure (s.mem.readWord (wordIndex p a))

/-- `MemWrite(ABS(p), a, 16, v)` (R17). -/
def State.store (s : State) (p : Byte) (a v : Word) : Run State := do
  s.access (.abs p) a
  pure { s with mem := s.mem.writeWord (wordIndex p a) v }

/-- `MemRead(DATA, a, 16)` (R85). -/
def State.loadData (s : State) (a : Word) : Run Word := s.load s.dataPage a

/-- `MemWrite(DATA, a, 16, v)` (R85). -/
def State.storeData (s : State) (a v : Word) : Run State := s.store s.dataPage a v

/-- The word address of a byte address (R90). -/
def byteWord (ba : Nat) : Word := BitVec.ofNat 16 (ba / 2)

/-- `ByteRead(ABS(p), ba)`: the low byte of the word if `ba` is even, the high byte if it is odd (R90). -/
def State.loadByte (s : State) (p : Byte) (ba : Nat) : Run Byte := do
  let w ← s.load p (byteWord ba)
  pure (if ba % 2 = 0 then lowByte w else highByte w)

/-- `ByteWrite(ABS(p), ba, v)`: the other byte of the word is unchanged (R90). -/
def State.storeByte (s : State) (p : Byte) (ba : Nat) (v : Byte) : Run State := do
  s.access (.abs p) (byteWord ba)
  pure { s with mem := s.mem.writeByte (2 * wordIndex p (byteWord ba) + ba % 2) v }

/-- Words stored at ascending addresses of a page, the first at `a`. -/
def State.storeWords (s : State) (p : Byte) (a : Word) : List Word → Run State
  | [] => .ok s
  | v :: t => do
    let s ← s.store p a v
    s.storeWords p (a + 1) t

/-- Registers loaded in the order of a list from ascending addresses of a page (R191, R322). -/
def State.loadRegisters (s : State) (p : Byte) (a : Word) : List RegNum → Run State
  | [] => .ok s
  | r :: t => do
    let v ← s.load p a
    (s.setReg r v).loadRegisters p (a + 1) t

/-- `MemRead(MAPMEM, a, 16)` (R367). -/
def State.loadMap (s : State) (a : Word) : Run Word := do
  s.access .mapMem a
  pure (s.mapMem.readWord a.toNat)

/-- `MemWrite(MAPMEM, a, 16, v)` (R368). -/
def State.storeMap (s : State) (a v : Word) : Run State := do
  s.access .mapMem a
  pure { s with mapMem := s.mapMem.writeWord a.toNat v }

/-! ### Devices (R87, R300, D32) -/

/-- The event is added to the output trace (R329, R330). -/
def State.emit (s : State) (e : Event) : State := { s with trace := e :: s.trace }

/-- The first answer waiting for a transfer, and the answers left. Where none waits, nothing answers: a time-out (D32). -/
def takeReply (k : IoKind) (dev : Word) : List IoReply → IoResult × List IoReply
  | [] => (.failed .timeOut, [])
  | r :: t =>
    if r.kind = k ∧ r.dev = dev then (r.result, t)
    else ((takeReply k dev t).1, r :: (takeReply k dev t).2)

/-- One transfer with a device: its answer, and the state in which that answer is used up. -/
def State.ioTransfer (s : State) (k : IoKind) (dev : Word) : Run (Word × State) := do
  s.access .io dev
  let s' := { s with ioReplies := (takeReply k dev s.ioReplies).2 }
  match (takeReply k dev s.ioReplies).1 with
  | .answered v => pure (v, s')
  | .failed f => transferError f .io dev s'

/-- `MemRead(IO, dev, 16)` with a kind (R300). -/
def State.ioRead (s : State) (k : IoKind) (dev : Word) : Run (Word × State) := do
  let (v, s) ← s.ioTransfer k dev
  pure (v, s.emit (.ioIn k dev v))

/-- `MemWrite(IO, dev, 16, v)` with a kind (R300). -/
def State.ioWrite (s : State) (k : IoKind) (dev v : Word) : Run State := do
  let (_, s) ← s.ioTransfer k dev
  pure (s.emit (.ioOut k dev v))

/-! ### Semaphore protection and the cache brackets -/

/-- SET SEMAPHORE BLOCKING ... CLEAR SEMAPHORE BLOCKING around a read-modify-write (R57, R102). The blocking is clear
again however it ends: it is always clear between instructions. -/
def State.underSemaphore (s : State) (f : State → Run State) : Run State :=
  match f { s with semBlock := true } with
  | .ok t => .ok { t with semBlock := false }
  | .error (.fault (.transferError k sp a t)) => transferError k sp a { t with semBlock := false }
  | .error e => .error e

/-- "IF PSW[13] = 1 THEN ENABLE (b) or DISABLE (not b) CACHE", on CPU type 7 only (R48, R56). -/
def State.bracketCache (s : State) (b : Bool) : State :=
  if s.plat.cpu = .type7 ∧ s.ca = true then { s with cacheOn := b } else s

/-! ### Exceptions and their ends -/

/-- `raise InternalInterrupt(cause)`: D00 gives no entry, so the run of the CPU ends with the cause and the state reached
(R380, D21; log 21). -/
def raiseInternal {α : Type} (cause : Nat) (s : State) : Run α := .error (.fault (.internalInterrupt cause s))

/-- The cause number of a transfer error: 2 parity error, 3 time-out (R382). -/
def causeOf : TransferKind → Word
  | .parity => 2
  | .timeOut => 3

/-- RETURN FROM ALTERNATIVE INSTRUCTION SET at exit `n`: ClearModification; `PSW.ALT <- 0; pc <- A + n` (R47, R350). -/
def State.altReturn (s : State) (n : Word) : State := ((s.clearModification).setAlt false).advance n

/-- `ErrorExit(cause)`: the address of the instruction at BASE+16, the cause at BASE+17, interrupts disabled, and the
first exit (R354, R386). -/
def State.errorExit (s : State) (k : TransferKind) : Run State := do
  let s1 ← s.storeData (s.base + 16) s.pc
  let s2 ← s1.storeData (s.base + 17) (causeOf k)
  pure ((s2.setMask 3).altReturn 1)

/-- An alternative instruction with an error exit: a transfer error inside it takes the exit, in the state that it
reached (R354). -/
def withErrorExit : Run State → Run State
  | .error (.fault (.transferError k _ _ t)) => t.errorExit k
  | r => r

end Sys2Proof.Machine
end

