-- ==== Sys2Proof/Machine/Operands.lean ====
section
/-! DEFINITION. Operand forms: what an operand designates, and the address it resolves to (R128 to R138, R140, R351, R352). -/

namespace Sys2Proof.Machine

/-- The forms of an operand in the data page, without BASE and the modifier. -/
inductive DataForm where
  /-- X3 and B0.X3: an index register (R131) -/
  | index (n : RegNum)
  /-- B6.X2: an index register and a 6-bit displacement (R130) -/
  | disp (x : BitVec 2) (d : BitVec 6)
  /-- B8: an 8-bit displacement (R129) -/
  | direct (k : BitVec 8)
  deriving DecidableEq, Repr

/-- The sum of the index register and the displacement field. -/
def DataForm.offset (s : State) : DataForm → Word
  | .index n => s.reg n
  | .disp x d => s.reg (indexReg x) + zext d
  | .direct k => zext k

/-- An operand: a register, or a word of the data page whose address has MOD added when it is marked M (R140, R142). -/
inductive Operand where
  | reg (r : RegNum)
  | mem (f : DataForm) (marked : Bool)
  deriving DecidableEq, Repr

/-- R3: a register (R128). -/
abbrev Operand.r3 (r : RegNum) : Operand := .reg r
/-- R2: one of registers 0 to 3 (R128). -/
abbrev Operand.r2 (q : BitVec 2) : Operand := .reg (lowReg q)
/-- X3: never modified (R131). -/
abbrev Operand.x3 (n : RegNum) : Operand := .mem (.index n) false
/-- M B0.X3 (R131). -/
abbrev Operand.b0x3 (n : RegNum) : Operand := .mem (.index n) true
/-- M B6.X2 (R130). -/
abbrev Operand.b6x2 (x : BitVec 2) (d : BitVec 6) : Operand := .mem (.disp x d) true
/-- M B8 (R129). -/
abbrev Operand.b8 (k : BitVec 8) : Operand := .mem (.direct k) true

/-- Op1 of a word of format RR: the flag `a` chooses the word at the index register, never modified (R134, R137). -/
def op1 (a : Bool) (f1 : RegNum) : Operand := if a then .x3 f1 else .r3 f1
/-- Op2 of a word of format RR: the flag `b` chooses M B0.X3 (R134, R137). -/
def op2 (b : Bool) (f2 : RegNum) : Operand := if b then .b0x3 f2 else .r3 f2

/-- The place an operand resolves to. -/
inductive Loc where
  | reg (r : RegNum)
  | data (a : Word)
  deriving DecidableEq, Repr

/-- The address of a data form, with a modifier: BASE + offset + modifier (R81, R129 to R131, R140). -/
def DataForm.address (f : DataForm) (s : State) (m : Word) : Word := s.base + f.offset s + m

/-- The place of an operand, computed once from the registers and MOD as they are (R137). -/
def Operand.loc (s : State) : Operand → Loc
  | .reg r => .reg r
  | .mem f marked => .data (f.address s (if marked then s.mod else 0))

/-- The place after a place: the next register modulo 8, or the next word modulo 65536 (R19, R93). -/
def Loc.succ : Loc → Loc
  | .reg r => .reg (succReg r)
  | .data a => .data (a + 1)

/-- The value at a place. -/
def State.read (s : State) : Loc → Run Word
  | .reg r => .ok (s.reg r)
  | .data a => s.loadData a

/-- A value put at a place. -/
def State.write (s : State) (l : Loc) (v : Word) : Run State :=
  match l with
  | .reg r => .ok (s.setReg r v)
  | .data a => s.storeData a v

/-! ### Program operands (R82, R129, R130) -/

/-- The address of P6.X2, P0.X3 and P8 operands in a program page: PROG + offset + MOD. -/
def State.progAddress (s : State) (offset : Word) : Word := s.prog + offset + s.mod

/-- The word of the current program page at an address. -/
def State.loadProg (s : State) (a : Word) : Run Word := s.load s.progCur a

/-- X2 plus a 6-bit displacement (R130). -/
def State.indexed (s : State) (x : BitVec 2) (d : BitVec 6) : Word := s.reg (indexReg x) + zext d

/-! ### Location operands (R126, R127) -/

/-- The L10 displacement, 256*q + k (R126). -/
def disp10 (k : BitVec 8) (q : BitVec 2) : BitVec 10 := q ++ k

/-! ### (M) meanings (R141) -/

/-- A shift count: MOD mod 16 when modified, else C4 with 0 meaning 16 (R280). -/
def State.shiftCount (s : State) (c : BitVec 4) : Nat :=
  if s.modified then s.mod.toNat % 16 else if c = 0 then 16 else c.toNat

/-- A bit number: MOD mod 16 when modified, else C4 (R236, R251). -/
def State.bitNumber (s : State) (c : BitVec 4) : Nat := if s.modified then s.mod.toNat % 16 else c.toNat

/-- A device or map address: the register plus MOD (R140, R300). -/
def State.device (s : State) (r : RegNum) : Word := s.reg r + s.mod

/-! ### Byte operands (R91, R132, R351, R352) -/

/-- BB6.X2: `2*BASE + x[X2] + d + 2*MOD`, modulo 131072 (R91). -/
def State.byteAddress (s : State) (x : BitVec 2) (d : BitVec 6) : Nat :=
  (2 * s.base.toNat + (s.reg (indexReg x)).toNat + d.toNat + 2 * s.mod.toNat) % 131072

/-- The page of an AX33 or ABX33 pair: the low byte of the second register (R351). -/
def State.pairPage (s : State) (f : RegNum) : Byte := lowByte (s.reg (succReg f))

/-- The byte offset of an ABX33 or BX33 pair: the high byte of the second register (R351, R352). -/
def State.pairOffset (s : State) (f : RegNum) : Nat := (highByte (s.reg (succReg f))).toNat

/-- ABX33: `2*x[f] + x[Succ(f)][15:8]` (R351). -/
def State.absByteAddress (s : State) (f : RegNum) : Nat := 2 * (s.reg f).toNat + s.pairOffset f

/-- BX33: `2*BASE + 2*x[f] + x[Succ(f)][15:8]`, modulo 131072 (R352). -/
def State.ownByteAddress (s : State) (f : RegNum) : Nat :=
  (2 * s.base.toNat + 2 * (s.reg f).toNat + s.pairOffset f) % 131072

/-- INCR of a word pointer: the page register is unchanged (R353, D47). -/
def State.incrWord (s : State) (f : RegNum) : State := s.setReg f (s.reg f + 1)

/-- INCR of a byte pointer: one byte on, the offset left as 0 or 1 (R353, D46). -/
def State.incrByte (s : State) (f : RegNum) : State :=
  let n := 2 * (s.reg f).toNat + s.pairOffset f + 1
  (s.setReg f (BitVec.ofNat 16 (n / 2))).setReg (succReg f)
    (insertBits (s.reg (succReg f)) 8 (BitVec.ofNat 8 (n % 2)))

end Sys2Proof.Machine
end

