-- ==== Sys2Proof/Machine/SingleBit.lean ====
section
/-! DEFINITION. The single bit operations (46_single_bit.md, R290 to R294). -/

namespace Sys2Proof.Machine

/-- CLRS and SETS with the bit number in OP2: OP2 read, then OP1 read, changed and written (R291, R292). -/
def changeBit (f : Word → Nat → Word) (o1 o2 : Operand) (s : State) : Run State := do
  let n ← s.read (o2.loc s)
  let w ← s.read (o1.loc s)
  let t ← s.write (o1.loc s) (f w (n.toNat % 16))
  pure t.finish

/-- SETS with a constant bit number, MOD ignored (R292). -/
def changeBitConstant (f : Word → Nat → Word) (o1 : Operand) (c : BitVec 4) (s : State) : Run State := do
  let w ← s.read (o1.loc s)
  let t ← s.write (o1.loc s) (f w c.toNat)
  pure t.finish

/-- A bit of a word of memory released under semaphore protection, then `n` locations on: RELS and the core of ARELS
(R293, R364). -/
def releaseBit (page : Byte) (a : Word) (c : BitVec 4) (s : State) : Run State := s.underSemaphore fun s => do
  let w ← s.load page a
  s.store page a (clearBit w c.toNat)

/-- A bit of a word of memory reserved under semaphore protection: where it is 0 it is set and `one` location more is skipped
(R294, R363, C1). -/
def reserveBit (page : Byte) (a : Word) (c : BitVec 4) (s : State) : Run State := s.underSemaphore fun s => do
  let w ← s.load page a
  if w.getLsbD c.toNat then pure s
  else do
    let t ← s.store page a (setBit w c.toNat)
    pure (t.advance 1)

/-- RELS: the modification is not cleared (R293). -/
def release (f1 : RegNum) (c : BitVec 4) (s : State) : Run State := do
  let t ← releaseBit s.dataPage (s.base + s.reg f1) c s
  pure (t.advance 1)

/-- RESS: one location skipped when the bit was 0; the modification is not cleared (R294). -/
def reserve (f1 : RegNum) (c : BitVec 4) (s : State) : Run State := do
  let t ← reserveBit s.dataPage (s.base + s.reg f1) c s
  pure (t.advance 1)

/-! ### The instructions -/

/-- RELS X3, C4 (R293). -/
def execRels (f1 : RegNum) (c : BitVec 4) (s : State) : Answer :=
  outcome (release f1 c s)

/-- RESS X3, C4 (R294). -/
def execRess (f1 : RegNum) (c : BitVec 4) (s : State) : Answer :=
  outcome (reserve f1 c s)

/-- SETS R3, R3 / R3, M B0.X3 (R292). -/
def execSetsR (f1 : RegNum) (b : Bool) (f2 : RegNum) (s : State) : Answer :=
  outcome (changeBit setBit (.r3 f1) (op2 b f2) s)

/-- SETS X3, R3 / X3, M B0.X3 (R292). -/
def execSetsX (f1 : RegNum) (b : Bool) (f2 : RegNum) (s : State) : Answer :=
  outcome (changeBit setBit (.x3 f1) (op2 b f2) s)

/-- CLRS R3, R3 / R3, M B0.X3 (R291). -/
def execClrsR (f1 : RegNum) (b : Bool) (f2 : RegNum) (s : State) : Answer :=
  outcome (changeBit clearBit (.r3 f1) (op2 b f2) s)

/-- CLRS X3, R3 / X3, M B0.X3 (R291). -/
def execClrsX (f1 : RegNum) (b : Bool) (f2 : RegNum) (s : State) : Answer :=
  outcome (changeBit clearBit (.x3 f1) (op2 b f2) s)

/-- SETS R3, C4 (R292). -/
def execSetsRC (f1 : RegNum) (c : BitVec 4) (s : State) : Answer :=
  outcome (changeBitConstant setBit (.r3 f1) c s)

/-- SETS X3, C4 (R292). -/
def execSetsXC (f1 : RegNum) (c : BitVec 4) (s : State) : Answer :=
  outcome (changeBitConstant setBit (.x3 f1) c s)

end Sys2Proof.Machine
end

