-- ==== Sys2Proof/Machine/Alternative.lean ====
section
/-! DEFINITION. The alternative instruction set (49_alternative.md, R350 to R372). The instruction stands at A = pc. Those with an error
exit run inside `withErrorExit` (Ops.lean): a failing transfer leaves by A + 1 (R354). -/

namespace Sys2Proof.Machine

/-- How many units one step moves at most before it stops at an interruption point, with the instruction still at pc and PSW.ALT 1, so
that the next step goes on (R393). No count is larger (log 24). -/
def blockFuel : Nat := 65536

/-- "WHILE OP3>0 DO": a unit moved and the registers updated, until the count register is 0; then CLEAR MODIFICATION, PSW.ALT 0 and
exit A + 2 (R353, R355). -/
def blockLoop (unit : State → Run State) (t : RegNum) : Nat → State → Run State
  | 0, s => .ok s
  | n + 1, s =>
    if s.reg t = 0 then .ok (s.altReturn 2)
    else do
      let s1 ← unit s
      blockLoop unit t n s1

/-- DECR(OP3) (R353). -/
def State.decrement (s : State) (t : RegNum) : State := s.setReg t (s.reg t - 1)

/-- One word moved and both word pointers incremented, then the count decremented (R353, R355 to R357). The pages and addresses are
given as functions of the state, read afresh for each unit. -/
def moveUnitWord (src dst : State → Byte × Word) (f1 f2 t : RegNum) (s : State) : Run State := do
  let w ← s.load (src s).1 (src s).2
  let s1 ← s.store (dst s).1 (dst s).2 w
  pure (((s1.incrWord f1).incrWord f2).decrement t)

/-- One byte moved (R353, R358 to R360). -/
def moveUnitByte (src dst : State → Byte × Nat) (f1 f2 t : RegNum) (s : State) : Run State := do
  let v ← s.loadByte (src s).1 (src s).2
  let s1 ← s.storeByte (dst s).1 (dst s).2 v
  pure (((s1.incrByte f1).incrByte f2).decrement t)

/-- AX33: page and word address (R351). -/
def absWord (f : RegNum) (s : State) : Byte × Word := (s.pairPage f, s.reg f)

/-- X3: the own data page and BASE + x[f] (R352). -/
def ownWord (f : RegNum) (s : State) : Byte × Word := (s.dataPage, s.base + s.reg f)

/-- ABX33: page and byte address (R351). -/
def absByte (f : RegNum) (s : State) : Byte × Nat := (s.pairPage f, s.absByteAddress f)

/-- BX33: the own data page and the byte address with BASE (R352). -/
def ownByte (f : RegNum) (s : State) : Byte × Nat := (s.dataPage, s.ownByteAddress f)

/-- A block move of words. -/
def blockWords (src dst : State → Byte × Word) (f1 f2 t : RegNum) (s : State) : Run State :=
  withErrorExit (blockLoop (moveUnitWord src dst f1 f2 t) t blockFuel s)

/-- A block move of bytes. -/
def blockBytes (src dst : State → Byte × Nat) (f1 f2 t : RegNum) (s : State) : Run State :=
  withErrorExit (blockLoop (moveUnitByte src dst f1 f2 t) t blockFuel s)

/-- The end of an instruction with the cache statements of CPU type 7: enabled again, exit A + 2 (R361 to R364). -/
def State.altEnd (s : State) : State := (s.bracketCache true).altReturn 2

/-- AMOW, memory to register (R361). -/
def absLoadWord (f1 f2 : RegNum) (s : State) : Run State := withErrorExit do
  let s := s.bracketCache false
  let w ← s.load (s.pairPage f1) (s.reg f1)
  pure (s.setReg f2 w).altEnd

/-- AMOW, register to memory (R361). -/
def absStoreWord (f1 f2 : RegNum) (s : State) : Run State := withErrorExit do
  let s := s.bracketCache false
  let s ← s.store (s.pairPage f1) (s.reg f1) (s.reg f2)
  pure s.altEnd

/-- AMOB, memory to register: the upper byte is cleared (R362, D49). -/
def absLoadByte (f1 f2 : RegNum) (s : State) : Run State := withErrorExit do
  let s := s.bracketCache false
  let v ← s.loadByte (s.pairPage f1) (s.absByteAddress f1)
  pure (s.setReg f2 (zext v)).altEnd

/-- AMOB, register to memory: the lower byte is stored (R362, D49). -/
def absStoreByte (f1 f2 : RegNum) (s : State) : Run State := withErrorExit do
  let s := s.bracketCache false
  let s ← s.storeByte (s.pairPage f1) (s.absByteAddress f1) (lowByte (s.reg f2))
  pure s.altEnd

/-- ARESS: exit A + 3 where the bit was 0, else A + 2 (R363, C1). -/
def absReserve (f1 : RegNum) (c : BitVec 4) (s : State) : Run State := withErrorExit do
  let s := s.bracketCache false
  let s ← reserveBit (s.pairPage f1) (s.reg f1) c s
  pure s.altEnd

/-- ARELS (R364). -/
def absRelease (f1 : RegNum) (c : BitVec 4) (s : State) : Run State := withErrorExit do
  let s := s.bracketCache false
  let s ← releaseBit (s.pairPage f1) (s.reg f1) c s
  pure s.altEnd

/-- DRD: F1 is the data operand, F2 the device address (R365). -/
def deviceRead (dst : Operand) (f2 : RegNum) (s : State) : Run State := withErrorExit do
  let (v, s1) ← s.ioRead .drd (s.device f2)
  let s2 ← s1.write (dst.loc s) v
  pure (s2.altReturn 2)

/-- DWR (R366). -/
def deviceWrite (src : Operand) (f2 : RegNum) (s : State) : Run State := withErrorExit do
  let v ← s.read (src.loc s)
  let s1 ← s.ioWrite .dwr (s.device f2) v
  pure (s1.altReturn 2)

/-- MRD: a word of map memory, exit A + 1. On CPU type 8 an illegal instruction, nothing changed before the raise (R367, R381). -/
def mapRead (dst : Operand) (f2 : RegNum) (s : State) : Run State :=
  if s.plat.cpu = .type8 then raiseInternal 1 s
  else do
    let v ← s.loadMap (s.device f2)
    let t ← s.write (dst.loc s) v
    pure (t.altReturn 1)

/-- MWR (R368, R381). -/
def mapWrite (src : Operand) (f2 : RegNum) (s : State) : Run State :=
  if s.plat.cpu = .type8 then raiseInternal 1 s
  else do
    let v ← s.read (src.loc s)
    let t ← s.storeMap (s.device f2) v
    pure (t.altReturn 1)

/-- RSP (R369). -/
def readSystemMap (dst : Operand) (s : State) : Run State := do
  let t ← s.write (dst.loc s) (zext s.spm)
  pure (t.altReturn 1)

/-- WSP (R370). -/
def writeSystemMap (src : Operand) (s : State) : Run State := do
  let v ← s.read (src.loc s)
  pure (({ s with spm := lowByte v } : State).altReturn 1)

/-- ARSC: the word is read, the syndrome put in the register, the corrected word, here the word itself, written back; indivisible, exit
A + 1. The page and the address are formed before the register is written (R371, D50, log 14). -/
def readSyndrome (f1 f2 : RegNum) (s : State) : Run State := do
  let p := s.pairPage f1
  let e := s.reg f1
  let t ← s.underSemaphore fun s => do
    let w ← s.load p e
    (s.setReg f2 (Config.syndrome p e)).store p e w
  pure (t.altReturn 1)

/-- A read that cannot raise a parity error: only a time-out stops it (R372, R387, log 30). -/
def State.loadRaw (s : State) (p : Byte) (a : Word) : Run Word :=
  if transferFailure s.plat (.abs p) a = some .timeOut then transferError .timeOut (.abs p) a s
  else .ok (s.mem.readWord (wordIndex p a))

/-- ARED (R372). -/
def readUncorrected (f1 f2 : RegNum) (s : State) : Run State := do
  let w ← s.loadRaw (s.pairPage f1) (s.reg f1)
  pure ((s.setReg f2 w).altReturn 1)

/-! ### The instructions -/

/-- AAMOW AX33, AX33, R3 (R355). -/
def execAamow (f1 f2 t : RegNum) (s : State) : Answer :=
  outcome (blockWords (absWord f1) (absWord f2) f1 f2 t s)

/-- LAMOW X3, AX33, R3 (R356). -/
def execLamow (f1 f2 t : RegNum) (s : State) : Answer :=
  outcome (blockWords (ownWord f1) (absWord f2) f1 f2 t s)

/-- ALMOW AX33, X3, R3 (R357). -/
def execAlmow (f1 f2 t : RegNum) (s : State) : Answer :=
  outcome (blockWords (absWord f1) (ownWord f2) f1 f2 t s)

/-- AAMOB ABX33, ABX33, R3 (R358). -/
def execAamob (f1 f2 t : RegNum) (s : State) : Answer :=
  outcome (blockBytes (absByte f1) (absByte f2) f1 f2 t s)

/-- LAMOB BX33, ABX33, R3 (R359). -/
def execLamob (f1 f2 t : RegNum) (s : State) : Answer :=
  outcome (blockBytes (ownByte f1) (absByte f2) f1 f2 t s)

/-- ALMOB ABX33, BX33, R3 (R360). -/
def execAlmob (f1 f2 t : RegNum) (s : State) : Answer :=
  outcome (blockBytes (absByte f1) (ownByte f2) f1 f2 t s)

/-- AMOW R3, AX33 (R361). -/
def execAmowStore (f1 f2 : RegNum) (s : State) : Answer :=
  outcome (absStoreWord f1 f2 s)

/-- AMOW AX33, R3 (R361). -/
def execAmowLoad (f1 f2 : RegNum) (s : State) : Answer :=
  outcome (absLoadWord f1 f2 s)

/-- AMOB R3, ABX33 (R362). -/
def execAmobStore (f1 f2 : RegNum) (s : State) : Answer :=
  outcome (absStoreByte f1 f2 s)

/-- AMOB ABX33, R3 (R362). -/
def execAmobLoad (f1 f2 : RegNum) (s : State) : Answer :=
  outcome (absLoadByte f1 f2 s)

/-- ARESS AX33, C4 (R363). -/
def execAress (f1 : RegNum) (c : BitVec 4) (s : State) : Answer :=
  outcome (absReserve f1 c s)

/-- ARELS AX33, C4 (R364). -/
def execArels (f1 : RegNum) (c : BitVec 4) (s : State) : Answer :=
  outcome (absRelease f1 c s)

/-- DRD R3, M R3 (R365). -/
def execDrdR (f1 f2 : RegNum) (s : State) : Answer :=
  outcome (deviceRead (.r3 f1) f2 s)

/-- DRD X3, M R3 (R365). -/
def execDrdX (f1 f2 : RegNum) (s : State) : Answer :=
  outcome (deviceRead (.x3 f1) f2 s)

/-- DWR R3, M R3 (R366). -/
def execDwrR (f1 f2 : RegNum) (s : State) : Answer :=
  outcome (deviceWrite (.r3 f1) f2 s)

/-- DWR X3, M R3 (R366). -/
def execDwrX (f1 f2 : RegNum) (s : State) : Answer :=
  outcome (deviceWrite (.x3 f1) f2 s)

/-- MRD R3, M R3 (R367). -/
def execMrdR (f1 f2 : RegNum) (s : State) : Answer :=
  outcome (mapRead (.r3 f1) f2 s)

/-- MRD X3, M R3 (R367). -/
def execMrdX (f1 f2 : RegNum) (s : State) : Answer :=
  outcome (mapRead (.x3 f1) f2 s)

/-- MWR R3, M R3 (R368). -/
def execMwrR (f1 f2 : RegNum) (s : State) : Answer :=
  outcome (mapWrite (.r3 f1) f2 s)

/-- MWR X3, M R3 (R368). -/
def execMwrX (f1 f2 : RegNum) (s : State) : Answer :=
  outcome (mapWrite (.x3 f1) f2 s)

/-- RSP R3 (R369). -/
def execRspR (f1 : RegNum) (s : State) : Answer :=
  outcome (readSystemMap (.r3 f1) s)

/-- RSP X3 (R369). -/
def execRspX (f1 : RegNum) (s : State) : Answer :=
  outcome (readSystemMap (.x3 f1) s)

/-- WSP R3 (R370). -/
def execWspR (f1 : RegNum) (s : State) : Answer :=
  outcome (writeSystemMap (.r3 f1) s)

/-- WSP X3 (R370). -/
def execWspX (f1 : RegNum) (s : State) : Answer :=
  outcome (writeSystemMap (.x3 f1) s)

/-- ARSC AX33, R3 (R371). -/
def execArsc (f1 f2 : RegNum) (s : State) : Answer :=
  outcome (readSyndrome f1 f2 s)

/-- ARED AX33, R3 (R372). -/
def execAred (f1 f2 : RegNum) (s : State) : Answer :=
  outcome (readUncorrected f1 f2 s)

end Sys2Proof.Machine
end

