-- ==== Sys2Proof/Machine/Flags.lean ====
section
/-! DEFINITION. SET CONDITION CODES: the carry and overflow of the five flag-setting instructions (R44, R215, D9, D11). -/

namespace Sys2Proof.Machine

/-- A sum or difference with its flags. -/
structure Sum where
  result : Word
  carry : Bool
  overflow : Bool
  deriving DecidableEq, Repr

/-- The carry as a number. -/
def carryIn (c : Bool) : Nat := if c then 1 else 0

/-- Whether an exact signed result lies outside -32768..32767. -/
def outOfRange (r : Int) : Bool := decide (r < -32768) || decide (32767 < r)

/-- `AddCC(b, a, cin)` (R215). -/
def addCC (b a : Word) (cin : Bool) : Sum where
  result := BitVec.ofNat 16 (b.toNat + a.toNat + carryIn cin)
  carry := decide (65536 ≤ b.toNat + a.toNat + carryIn cin)
  overflow := outOfRange (b.toInt + a.toInt + carryIn cin)

/-- `SubCC(b, a, cin)`: b plus the complement of a plus cin, C = 1 meaning no borrow (R215). -/
def subCC (b a : Word) (cin : Bool) : Sum where
  result := BitVec.ofNat 16 (b.toNat + (~~~a).toNat + carryIn cin)
  carry := decide (65536 ≤ b.toNat + (~~~a).toNat + carryIn cin)
  overflow := outOfRange (b.toInt - a.toInt - 1 + carryIn cin)

/-- The place of C inside PSW bits 7:4, from 0 (R43). -/
def carryPlace (l : FlagLayout) : Nat := l.cPos.val

/-- The place of V inside PSW bits 7:4, from 0; never that of C (R43). -/
def overflowPlace (l : FlagLayout) : Nat := (l.cPos.val + 1 + l.vGap.val) % 4

/-- `PSW.C` (R43). -/
def State.carry (s : State) : Bool := s.psw.getLsbD (4 + carryPlace s.plat.flags)

/-- `PSW.V` (R43). -/
def State.overflow (s : State) : Bool := s.psw.getLsbD (4 + overflowPlace s.plat.flags)

/-- One of the four flag bits: C, V, or a bit of a free value for F2 and F3 (R44). -/
def flagBit (l : FlagLayout) (c v : Bool) (free : Word) (i : Nat) : Bool :=
  if i = carryPlace l then c else if i = overflowPlace l then v else free.getLsbD i

/-- PSW bits 7:4 with C and V at the platform's places. -/
def flagNibble (l : FlagLayout) (c v : Bool) (free : Word) : BitVec 4 :=
  BitVec.ofBool (flagBit l c v free 3) ++ BitVec.ofBool (flagBit l c v free 2)
    ++ BitVec.ofBool (flagBit l c v free 1) ++ BitVec.ofBool (flagBit l c v free 0)

/-- SET CONDITION CODES: C and V written, F2 and F3 free values, the other PSW bits unchanged (R44; log 11). -/
def State.setCC (s : State) (c v : Bool) : State :=
  ({ s with psw := insertBits s.psw 4 (flagNibble s.plat.flags c v (s.free 0)) } : State).drawn 1

end Sys2Proof.Machine
end

