-- ==== Sys2Proof/Machine/Arith.lean ====
section
/-! DEFINITION. The arithmetic and logic instructions (43_arith_logic.md, R215 to R237). -/

namespace Sys2Proof.Machine

/-- A sum with its flags put in a register (R216). -/
def State.setSum (s : State) (r : RegNum) (u : Sum) : State := (s.setReg r u.result).setCC u.carry u.overflow

/-- ADDC (R216). -/
def addConstant (v : Word) (r : RegNum) (s : State) : State := (s.setSum r (addCC (s.reg r) v false)).finish

/-- ADD, ADDU, SUB, SUBU: OP1 read, OP2 read, the result written to OP2, the condition codes set (R217 to R220). -/
def arithmetic (f : Word → Word → Bool → Sum) (cin : Bool) (o1 o2 : Operand) (s : State) : Run State := do
  let v ← s.read (o1.loc s)
  let w ← s.read (o2.loc s)
  let u := f w v cin
  let t ← s.write (o2.loc s) u.result
  pure (t.setCC u.carry u.overflow).finish

/-- AND, IOR, XOR: OP2 := OP2 op OP1, no flag (R223 to R225). OP1 is read first: a DESIGN CHOICE, for R223 and R224 state no order of the
two reads, which shows only in the address that a transfer error names where both fail (log 37). -/
def logic (f : Word → Word → Word) (o1 o2 : Operand) (s : State) : Run State := do
  let v ← s.read (o1.loc s)
  let w ← s.read (o2.loc s)
  let t ← s.write (o2.loc s) (f w v)
  pure t.finish

/-- An operand replaced by a function of itself: DEC, INC, INV, NEG, SWP, SXT, XTR (R227 to R231, R236, R237). -/
def update (f : Word → Word) (o : Operand) (s : State) : Run State := do
  let w ← s.read (o.loc s)
  let t ← s.write (o.loc s) (f w)
  pure t.finish

/-- CLR: zero written, nothing read (R226). -/
def clear (o : Operand) (s : State) : Run State := do
  let t ← s.write (o.loc s) 0
  pure t.finish

/-- DECD and INCD: both operands read before either is written (R232, R233). -/
def updateBoth (f : Word → Word) (o1 o2 : Operand) (s : State) : Run State := do
  let v ← s.read (o1.loc s)
  let w ← s.read (o2.loc s)
  let s1 ← s.write (o1.loc s) (f v)
  let s2 ← s1.write (o2.loc s) (f w)
  pure s2.finish

/-- DDCP and DICP: the operand, then its successor, each read, changed and written back, the operand
whole before its successor is read (R234, R235; DEDUCED, log 37). -/
def updatePair (f : Word → Word) (o : Operand) (s : State) : Run State := do
  let l := o.loc s
  let v ← s.read l
  let s1 ← s.write l (f v)
  let w ← s1.read l.succ
  let s2 ← s1.write l.succ (f w)
  pure s2.finish

/-- The 32-bit product of two signed words (R221, D17). -/
def product (v w : Word) : BitVec 32 := BitVec.ofInt 32 (v.toInt * w.toInt)

/-- MUL: the low half of the product to OP2, the high half to the next word (R221). -/
def multiply (o1 : Operand) (f2 : RegNum) (s : State) : Run State := do
  let v ← s.read (o1.loc s)
  let a := s.base + s.reg f2 + s.mod
  let w ← s.loadData a
  let s1 ← s.storeData a ((product v w).extractLsb' 0 16)
  let s2 ← s1.storeData (a + 1) ((product v w).extractLsb' 16 16)
  pure s2.finish

/-- Quotient and remainder of a division by zero: two free values (R222, D16, U8, log 13). -/
def State.divideByZero (s : State) (r : RegNum) : State :=
  ((s.setReg r (s.free 0)).setReg (succReg r) (s.free 1)).drawn 2

/-- Quotient, truncated, and remainder of the unsigned division of the register pair, successor high (R222). -/
def State.divideBy (s : State) (r : RegNum) (v : Word) : State :=
  let n := (s.reg (succReg r)).toNat * 65536 + (s.reg r).toNat
  (s.setReg r (BitVec.ofNat 16 (n / v.toNat))).setReg (succReg r) (BitVec.ofNat 16 (n % v.toNat))

/-- DIV (R222). -/
def divide (o1 : Operand) (r : RegNum) (s : State) : Run State := do
  let v ← s.read (o1.loc s)
  pure (if v = 0 then s.divideByZero r else s.divideBy r v).finish

/-! ### The instructions -/

/-- ADD R3, M B6.X2 (R217). -/
def execAddRB6 (x : BitVec 2) (d : BitVec 6) (t : RegNum) (s : State) : Answer :=
  outcome (arithmetic addCC false (.r3 t) (.b6x2 x d) s)

/-- DEC M B6.X2 (R227). -/
def execDec (x : BitVec 2) (d : BitVec 6) (s : State) : Answer :=
  outcome (update (· - 1) (.b6x2 x d) s)

/-- INC M B6.X2 (R228). -/
def execInc (x : BitVec 2) (d : BitVec 6) (s : State) : Answer :=
  outcome (update (· + 1) (.b6x2 x d) s)

/-- CLR M B6.X2 (R226). -/
def execClr (x : BitVec 2) (d : BitVec 6) (s : State) : Answer :=
  outcome (clear (.b6x2 x d) s)

/-- ADD M B6.X2, R3 (R217). -/
def execAddB6R (x : BitVec 2) (d : BitVec 6) (t : RegNum) (s : State) : Answer :=
  outcome (arithmetic addCC false (.b6x2 x d) (.r3 t) s)

/-- SXT X3, (M)C4 (R236). -/
def execSxt (f1 : RegNum) (c : BitVec 4) (s : State) : Answer :=
  outcome (update (signExtendFrom (s.bitNumber c)) (.x3 f1) s)

/-- ADD R3, R3 / R3, M B0.X3 / X3, R3 / X3, M B0.X3 (R217). -/
def execAddRR (a : Bool) (f1 : RegNum) (b : Bool) (f2 : RegNum) (s : State) : Answer :=
  outcome (arithmetic addCC false (op1 a f1) (op2 b f2) s)

/-- SUB R3, R3 / R3, M B0.X3 / X3, R3 / X3, M B0.X3 (R219). -/
def execSubRR (a : Bool) (f1 : RegNum) (b : Bool) (f2 : RegNum) (s : State) : Answer :=
  outcome (arithmetic subCC true (op1 a f1) (op2 b f2) s)

/-- AND R3, R3 / R3, M B0.X3 / X3, R3 / X3, M B0.X3 (R223). -/
def execAndRR (a : Bool) (f1 : RegNum) (b : Bool) (f2 : RegNum) (s : State) : Answer :=
  outcome (logic (· &&& ·) (op1 a f1) (op2 b f2) s)

/-- IOR R3, R3 / R3, M B0.X3 / X3, R3 / X3, M B0.X3 (R224). -/
def execIorRR (a : Bool) (f1 : RegNum) (b : Bool) (f2 : RegNum) (s : State) : Answer :=
  outcome (logic (· ||| ·) (op1 a f1) (op2 b f2) s)

/-- INCD R3, R3 (R233). -/
def execIncdRR (f1 f2 : RegNum) (s : State) : Answer :=
  outcome (updateBoth (· + 1) (.r3 f1) (.r3 f2) s)

/-- DECD R3, R3 (R232). -/
def execDecdRR (f1 f2 : RegNum) (s : State) : Answer :=
  outcome (updateBoth (· - 1) (.r3 f1) (.r3 f2) s)

/-- INCD X3, M B0.X3 (R233). -/
def execIncdXM (f1 f2 : RegNum) (s : State) : Answer :=
  outcome (updateBoth (· + 1) (.x3 f1) (.b0x3 f2) s)

/-- DECD X3, M B0.X3 (R232). -/
def execDecdXM (f1 f2 : RegNum) (s : State) : Answer :=
  outcome (updateBoth (· - 1) (.x3 f1) (.b0x3 f2) s)

/-- ADDC M CN8, R3 (R216). -/
def execAddcCn8R (k : BitVec 8) (t : RegNum) (s : State) : Answer :=
  .next (addConstant (negated k + s.mod) t s)

/-- ADDC M C8, R3 (R216). -/
def execAddcC8R (k : BitVec 8) (t : RegNum) (s : State) : Answer :=
  .next (addConstant (zext k + s.mod) t s)

/-- ADDU R3, R3 / R3, M B0.X3 / X3, R3 / X3, M B0.X3 (R218). -/
def execAdduRR (a : Bool) (f1 : RegNum) (b : Bool) (f2 : RegNum) (s : State) : Answer :=
  outcome (arithmetic addCC s.carry (op1 a f1) (op2 b f2) s)

/-- SUBU R3, R3 / R3, M B0.X3 / X3, R3 / X3, M B0.X3 (R220). -/
def execSubuRR (a : Bool) (f1 : RegNum) (b : Bool) (f2 : RegNum) (s : State) : Answer :=
  outcome (arithmetic subCC s.carry (op1 a f1) (op2 b f2) s)

/-- XOR R3, R3 / X3, R3 (R225). -/
def execXor (a : Bool) (f1 f2 : RegNum) (s : State) : Answer :=
  outcome (logic (· ^^^ ·) (op1 a f1) (.r3 f2) s)

/-- MUL R3, M B0.X3 / X3, M B0.X3 (R221). -/
def execMul (a : Bool) (f1 f2 : RegNum) (s : State) : Answer :=
  outcome (multiply (op1 a f1) f2 s)

/-- DIV R3, R3 / X3, R3 (R222). -/
def execDiv (a : Bool) (f1 f2 : RegNum) (s : State) : Answer :=
  outcome (divide (op1 a f1) f2 s)

/-- XTR R3, C4 (R237). -/
def execXtrRC (f1 : RegNum) (c : BitVec 4) (s : State) : Answer :=
  outcome (update (lowBits c.toNat) (.r3 f1) s)

/-- XTR X3, C4 (R237). -/
def execXtrXC (f1 : RegNum) (c : BitVec 4) (s : State) : Answer :=
  outcome (update (lowBits c.toNat) (.x3 f1) s)

/-- DICP R3 (R235). -/
def execDicpR (f2 : RegNum) (s : State) : Answer :=
  outcome (updatePair (· + 2) (.r3 f2) s)

/-- DICP M B0.X3 (R235). -/
def execDicpM (f2 : RegNum) (s : State) : Answer :=
  outcome (updatePair (· + 2) (.b0x3 f2) s)

/-- DDCP R3 (R234). -/
def execDdcpR (f2 : RegNum) (s : State) : Answer :=
  outcome (updatePair (· - 2) (.r3 f2) s)

/-- DDCP M B0.X3 (R234). -/
def execDdcpM (f2 : RegNum) (s : State) : Answer :=
  outcome (updatePair (· - 2) (.b0x3 f2) s)

/-- SWP R3 (R231). -/
def execSwpR (f2 : RegNum) (s : State) : Answer :=
  outcome (update swapBytes (.r3 f2) s)

/-- SWP M B0.X3 (R231). -/
def execSwpM (f2 : RegNum) (s : State) : Answer :=
  outcome (update swapBytes (.b0x3 f2) s)

/-- INV R3 (R229). -/
def execInvR (f2 : RegNum) (s : State) : Answer :=
  outcome (update (~~~·) (.r3 f2) s)

/-- INV M B0.X3 (R229). -/
def execInvM (f2 : RegNum) (s : State) : Answer :=
  outcome (update (~~~·) (.b0x3 f2) s)

/-- NEG R3 (R230). -/
def execNegR (f2 : RegNum) (s : State) : Answer :=
  outcome (update (-·) (.r3 f2) s)

/-- NEG M B0.X3 (R230). -/
def execNegM (f2 : RegNum) (s : State) : Answer :=
  outcome (update (-·) (.b0x3 f2) s)

end Sys2Proof.Machine
end

