-- ==== Sys2Proof/Machine/Io.lean ====
section
/-! DEFINITION. The input/output instructions of the standard set (47_io.md, R300 to R304): F1 holds the device address, to which MOD
is added, F2 the data. -/

namespace Sys2Proof.Machine

/-- SIO and RIO: a word from the device to the data operand, whose address is not modified (R300). -/
def input (kind : IoKind) (dst : Operand) (f1 : RegNum) (s : State) : Run State := do
  let (v, s1) ← s.ioRead kind (s.device f1)
  let s2 ← s1.write (dst.loc s) v
  pure s2.finish

/-- CIO and WIO: a word from the data operand to the device (R300). -/
def output (kind : IoKind) (src : Operand) (f1 : RegNum) (s : State) : Run State := do
  let v ← s.read (src.loc s)
  let s1 ← s.ioWrite kind (s.device f1) v
  pure s1.finish

/-! ### The instructions -/

/-- SIO R3, (M)R3 (R301). -/
def execSioR (f1 f2 : RegNum) (s : State) : Answer :=
  outcome (input .sio (.r3 f2) f1 s)

/-- CIO R3, (M)R3 (R302). -/
def execCioR (f1 f2 : RegNum) (s : State) : Answer :=
  outcome (output .cio (.r3 f2) f1 s)

/-- RIO R3, (M)R3 (R303). -/
def execRioR (f1 f2 : RegNum) (s : State) : Answer :=
  outcome (input .rio (.r3 f2) f1 s)

/-- WIO R3, (M)R3 (R304). -/
def execWioR (f1 f2 : RegNum) (s : State) : Answer :=
  outcome (output .wio (.r3 f2) f1 s)

/-- SIO X3, (M)R3 (R301). -/
def execSioX (f1 f2 : RegNum) (s : State) : Answer :=
  outcome (input .sio (.x3 f2) f1 s)

/-- CIO X3, (M)R3 (R302). -/
def execCioX (f1 f2 : RegNum) (s : State) : Answer :=
  outcome (output .cio (.x3 f2) f1 s)

/-- RIO X3, (M)R3 (R303). -/
def execRioX (f1 f2 : RegNum) (s : State) : Answer :=
  outcome (input .rio (.x3 f2) f1 s)

/-- WIO X3, (M)R3 (R304). -/
def execWioX (f1 f2 : RegNum) (s : State) : Answer :=
  outcome (output .wio (.x3 f2) f1 s)

end Sys2Proof.Machine
end

