-- ==== Sys2Proof/Syntax.lean ====
section
/-! DEFINITION. The instructions, from the rows of spec/opcode_table.json (R120, R122, R147 to R151). One constructor per row, but for two
kinds of rows that R125, R147 and R148 put on one line: the rows of format RR that share a mnemonic and a low byte are one constructor
with the flags a and b as arguments, and the rows of JMP and JMPI with a return link are one with the link register as argument. (Lean
compiles no inductive type with more than 245 constructors that have arguments; log 36.)

A name is the mnemonic and the operand form: R a register, X the word at an index register, M the word marked M B0.X3, RR the format RR,
B6, B8, P6, P8, L4, L8, L10, C4, C8 the field of that name, n after it where the field is negated before use. Arguments stand in the order
of the fields from bit 15 down: a and b are the flags of bits 15 and 11, f1 and f2 the registers of bits 14:12 and 10:8, t and q the
fields of the low byte, x selects an index register, d, k and c are fields (R123). -/

namespace Sys2Proof

/-- S2, the return link register of JMP and JMPI: field value 1, 2, 3 (R125). -/
inductive Link where
  | s4 | s5 | s6
  deriving DecidableEq, Repr

/-- An instruction of the standard or the alternative set. Each constructor's docstring gives its word, from bit 15 down. -/
inductive Instr where
  /-- SLTP R3, M C4 (R271): 1rrrcccc00000000 -/
  | sltpRC (f1 : RegNum) (c : BitVec 4)
  /-- SLTP X3, M C4 (R271): 1rrrcccc00000001 -/
  | sltpXC (f1 : RegNum) (c : BitVec 4)
  /-- SGEP R3, M C4 (R270): 1rrrcccc00000010 -/
  | sgepRC (f1 : RegNum) (c : BitVec 4)
  /-- SGEP X3, M C4 (R270): 1rrrcccc00000011 -/
  | sgepXC (f1 : RegNum) (c : BitVec 4)
  /-- SLOP R3, M C4 (R273): 1rrrcccc00000100 -/
  | slopRC (f1 : RegNum) (c : BitVec 4)
  /-- SLOP X3, M C4 (R273): 1rrrcccc00000101 -/
  | slopXC (f1 : RegNum) (c : BitVec 4)
  /-- SHSP R3, M C4 (R272): 1rrrcccc00000110 -/
  | shspRC (f1 : RegNum) (c : BitVec 4)
  /-- SHSP X3, M C4 (R272): 1rrrcccc00000111 -/
  | shspXC (f1 : RegNum) (c : BitVec 4)
  /-- SLT R3, M C4 (R265): 1rrrcccc01000000 -/
  | sltRC (f1 : RegNum) (c : BitVec 4)
  /-- SLT X3, M C4 (R265): 1rrrcccc01000001 -/
  | sltXC (f1 : RegNum) (c : BitVec 4)
  /-- SGE R3, M C4 (R264): 1rrrcccc01000010 -/
  | sgeRC (f1 : RegNum) (c : BitVec 4)
  /-- SGE X3, M C4 (R264): 1rrrcccc01000011 -/
  | sgeXC (f1 : RegNum) (c : BitVec 4)
  /-- SLO R3, M C4 (R267): 1rrrcccc01000100 -/
  | sloRC (f1 : RegNum) (c : BitVec 4)
  /-- SLO X3, M C4 (R267): 1rrrcccc01000101 -/
  | sloXC (f1 : RegNum) (c : BitVec 4)
  /-- SHS R3, M C4 (R266): 1rrrcccc01000110 -/
  | shsRC (f1 : RegNum) (c : BitVec 4)
  /-- SHS X3, M C4 (R266): 1rrrcccc01000111 -/
  | shsXC (f1 : RegNum) (c : BitVec 4)
  /-- ADD R3, M B6.X2 (R217): xxdddddd00001ttt -/
  | addRB6 (x : BitVec 2) (d : BitVec 6) (t : RegNum)
  /-- MOVC M CN4, X3 (R181): 0rrrcccc00010000 -/
  | movcCn4X (f1 : RegNum) (c : BitVec 4)
  /-- RELS X3, C4 (R293): 0rrrcccc00010001 -/
  | rels (f1 : RegNum) (c : BitVec 4)
  /-- MMP M P0.X3, R3 (R186): 1rrr0sss00010001 -/
  | mmp (f1 f2 : RegNum)
  /-- JMPI M B6.X2 (R204): xxdddddd00010010 -/
  | jmpiB6 (x : BitVec 2) (d : BitVec 6)
  /-- DEC M B6.X2 (R227): xxdddddd00010011 -/
  | dec (x : BitVec 2) (d : BitVec 6)
  /-- MODN B8 (R175): kkkkkkkk00010100 -/
  | modnB8 (k : BitVec 8)
  /-- MODN P8 (R175): kkkkkkkk00010101 -/
  | modnP8 (k : BitVec 8)
  /-- INC M B6.X2 (R228): xxdddddd00010110 -/
  | inc (x : BitVec 2) (d : BitVec 6)
  /-- JPZI M P8 (R205): kkkkkkkk00010111 -/
  | jpzi (k : BitVec 8)
  /-- MOV M B6.X2, R3 (R182): xxdddddd00011ttt -/
  | movB6R (x : BitVec 2) (d : BitVec 6) (t : RegNum)
  /-- MVP M P6.X2, R2 (R185): xxdddddd001000qq -/
  | mvp (x : BitVec 2) (d : BitVec 6) (q : BitVec 2)
  /-- SRL R3, (M)C4 (R284): 1rrrcccc00100100 -/
  | srlRC (f1 : RegNum) (c : BitVec 4)
  /-- SRLL R3, (M)C4 (R286): 0rrrcccc00100101 -/
  | srllRC (f1 : RegNum) (c : BitVec 4)
  /-- SRA R3, (M)C4 (R282): 1rrrcccc00100110 -/
  | sraRC (f1 : RegNum) (c : BitVec 4)
  /-- CLR M B6.X2 (R226): xxdddddd00100111 -/
  | clr (x : BitVec 2) (d : BitVec 6)
  /-- MOVC M CN8, R3 (R181): kkkkkkkk00101ttt -/
  | movcCn8R (k : BitVec 8) (t : RegNum)
  /-- ADD M B6.X2, R3 (R217): xxdddddd00110ttt -/
  | addB6R (x : BitVec 2) (d : BitVec 6) (t : RegNum)
  /-- SOZP M B6.X2 (R261): xxdddddd00111000 -/
  | sozp (x : BitVec 2) (d : BitVec 6)
  /-- SONP M B6.X2 (R260): xxdddddd00111001 -/
  | sonp (x : BitVec 2) (d : BitVec 6)
  /-- SOZ M B6.X2 (R259): xxdddddd00111010 -/
  | soz (x : BitVec 2) (d : BitVec 6)
  /-- SON M B6.X2 (R258): xxdddddd00111011 -/
  | son (x : BitVec 2) (d : BitVec 6)
  /-- SNEP R3, M CN4 (R269): 0rrrcccc00111100 -/
  | snepRCn (f1 : RegNum) (c : BitVec 4)
  /-- SNEP R3, M C4 (R269): 1rrrcccc00111100 -/
  | snepRC (f1 : RegNum) (c : BitVec 4)
  /-- SNEP X3, M CN4 (R269): 0rrrcccc00111101 -/
  | snepXCn (f1 : RegNum) (c : BitVec 4)
  /-- SNEP X3, M C4 (R269): 1rrrcccc00111101 -/
  | snepXC (f1 : RegNum) (c : BitVec 4)
  /-- SEQP R3, M CN4 (R268): 0rrrcccc00111110 -/
  | seqpRCn (f1 : RegNum) (c : BitVec 4)
  /-- SEQP R3, M C4 (R268): 1rrrcccc00111110 -/
  | seqpRC (f1 : RegNum) (c : BitVec 4)
  /-- SEQP X3, M CN4 (R268): 0rrrcccc00111111 -/
  | seqpXCn (f1 : RegNum) (c : BitVec 4)
  /-- SEQP X3, M C4 (R268): 1rrrcccc00111111 -/
  | seqpXC (f1 : RegNum) (c : BitVec 4)
  /-- SNE R3, M CN4 (R263): 0rrrcccc01111100 -/
  | sneRCn (f1 : RegNum) (c : BitVec 4)
  /-- SNE R3, M C4 (R263): 1rrrcccc01111100 -/
  | sneRC (f1 : RegNum) (c : BitVec 4)
  /-- SNE X3, M CN4 (R263): 0rrrcccc01111101 -/
  | sneXCn (f1 : RegNum) (c : BitVec 4)
  /-- SNE X3, M C4 (R263): 1rrrcccc01111101 -/
  | sneXC (f1 : RegNum) (c : BitVec 4)
  /-- SEQ R3, M CN4 (R262): 0rrrcccc01111110 -/
  | seqRCn (f1 : RegNum) (c : BitVec 4)
  /-- SEQ R3, M C4 (R262): 1rrrcccc01111110 -/
  | seqRC (f1 : RegNum) (c : BitVec 4)
  /-- SEQ X3, M CN4 (R262): 0rrrcccc01111111 -/
  | seqXCn (f1 : RegNum) (c : BitVec 4)
  /-- SEQ X3, M C4 (R262): 1rrrcccc01111111 -/
  | seqXC (f1 : RegNum) (c : BitVec 4)
  /-- MOVC M C8, R3 (R181): kkkkkkkk01001ttt -/
  | movcC8R (k : BitVec 8) (t : RegNum)
  /-- MOVC M C4, X3 (R181): 0rrrcccc01010000 -/
  | movcC4X (f1 : RegNum) (c : BitVec 4)
  /-- RESS X3, C4 (R294): 0rrrcccc01010001 -/
  | ress (f1 : RegNum) (c : BitVec 4)
  /-- SETS R3, R3 / R3, M B0.X3 (R292): 0rrrbsss01010010 -/
  | setsR (f1 : RegNum) (b : Bool) (f2 : RegNum)
  /-- SETS X3, R3 / X3, M B0.X3 (R292): 1rrrbsss01010011 -/
  | setsX (f1 : RegNum) (b : Bool) (f2 : RegNum)
  /-- MOD B6.X2 (R174): xxdddddd01010100 -/
  | modB6 (x : BitVec 2) (d : BitVec 6)
  /-- MODN B6.X2 (R175): xxdddddd01010101 -/
  | modnB6 (x : BitVec 2) (d : BitVec 6)
  /-- MOD8 C8 (R173): kkkkkkkk01010110 -/
  | mod8 (k : BitVec 8)
  /-- JMP M LN10 (R201): kkkkkkkk010110qq -/
  | jmpLn10 (k : BitVec 8) (q : BitVec 2)
  /-- JMP M LN8 (R201): kkkkkkkk01011100 -/
  | jmpLn8 (k : BitVec 8)
  /-- JMP S2, M LN8 (R202): kkkkkkkk010111qq -/
  | jmpS2Ln8 (k : BitVec 8) (l : Link)
  /-- MOVL B6.X2, R2 (R184): xxdddddd011000qq -/
  | movlLoad (x : BitVec 2) (d : BitVec 6) (q : BitVec 2)
  /-- SRL X3, (M)C4 (R284): 1rrrcccc01100100 -/
  | srlXC (f1 : RegNum) (c : BitVec 4)
  /-- SRLL X3, (M)C4 (R286): 0rrrcccc01100101 -/
  | srllXC (f1 : RegNum) (c : BitVec 4)
  /-- SRA X3, (M)C4 (R282): 1rrrcccc01100110 -/
  | sraXC (f1 : RegNum) (c : BitVec 4)
  /-- SXT X3, (M)C4 (R236): 0rrrcccc01100111 -/
  | sxt (f1 : RegNum) (c : BitVec 4)
  /-- MOV M B8, R3 (R182): kkkkkkkk01101ttt -/
  | movB8R (k : BitVec 8) (t : RegNum)
  /-- MOV R3, M B8 (R182): kkkkkkkk01110ttt -/
  | movRB8 (k : BitVec 8) (t : RegNum)
  /-- MOVB M BB6.X2, R2 (R183): xxdddddd011110qq -/
  | movbLoad (x : BitVec 2) (d : BitVec 6) (q : BitVec 2)
  /-- MOV R3, M B6.X2 (R182): xxdddddd10000ttt -/
  | movRB6 (x : BitVec 2) (d : BitVec 6) (t : RegNum)
  /-- CLRS R3, R3 / R3, M B0.X3 (R291): 0rrrbsss10001000 -/
  | clrsR (f1 : RegNum) (b : Bool) (f2 : RegNum)
  /-- CLRS X3, R3 / X3, M B0.X3 (R291): 1rrrbsss10001001 -/
  | clrsX (f1 : RegNum) (b : Bool) (f2 : RegNum)
  /-- ADD R3, R3 / R3, M B0.X3 / X3, R3 / X3, M B0.X3 (R217): arrrbsss10001010 -/
  | addRR (a : Bool) (f1 : RegNum) (b : Bool) (f2 : RegNum)
  /-- SUB R3, R3 / R3, M B0.X3 / X3, R3 / X3, M B0.X3 (R219): arrrbsss10001011 -/
  | subRR (a : Bool) (f1 : RegNum) (b : Bool) (f2 : RegNum)
  /-- AND R3, R3 / R3, M B0.X3 / X3, R3 / X3, M B0.X3 (R223): arrrbsss10001100 -/
  | andRR (a : Bool) (f1 : RegNum) (b : Bool) (f2 : RegNum)
  /-- IOR R3, R3 / R3, M B0.X3 / X3, R3 / X3, M B0.X3 (R224): arrrbsss10001101 -/
  | iorRR (a : Bool) (f1 : RegNum) (b : Bool) (f2 : RegNum)
  /-- INCD R3, R3 (R233): 0rrr0sss10001110 -/
  | incdRR (f1 f2 : RegNum)
  /-- DECD R3, R3 (R232): 0rrr1sss10001110 -/
  | decdRR (f1 f2 : RegNum)
  /-- INCD X3, M B0.X3 (R233): 1rrr0sss10001111 -/
  | incdXM (f1 f2 : RegNum)
  /-- DECD X3, M B0.X3 (R232): 1rrr1sss10001111 -/
  | decdXM (f1 f2 : RegNum)
  /-- MOVB R2, M BB6.X2 (R183): xxdddddd100100qq -/
  | movbStore (x : BitVec 2) (d : BitVec 6) (q : BitVec 2)
  /-- MOD B8 (R174): kkkkkkkk10010100 -/
  | modB8 (k : BitVec 8)
  /-- MOD P8 (R174): kkkkkkkk10010101 -/
  | modP8 (k : BitVec 8)
  /-- SIO R3, (M)R3 (R301): 0rrr1sss10010110 -/
  | sioR (f1 f2 : RegNum)
  /-- CIO R3, (M)R3 (R302): 1rrr1sss10010110 -/
  | cioR (f1 f2 : RegNum)
  /-- RIO R3, (M)R3 (R303): 0rrr1sss10010111 -/
  | rioR (f1 f2 : RegNum)
  /-- WIO R3, (M)R3 (R304): 1rrr1sss10010111 -/
  | wioR (f1 f2 : RegNum)
  /-- MOV M P8, R3 (R182): kkkkkkkk10011ttt -/
  | movP8R (k : BitVec 8) (t : RegNum)
  /-- SLL R3, (M)C4 (R283): 1rrrcccc10100000 -/
  | sllRC (f1 : RegNum) (c : BitVec 4)
  /-- SLLL R3, (M)C4 (R285): 0rrrcccc10100001 -/
  | slllRC (f1 : RegNum) (c : BitVec 4)
  /-- SLC R3, (M)C4 (R281): 1rrrcccc10100010 -/
  | slcRC (f1 : RegNum) (c : BitVec 4)
  /-- SETS R3, C4 (R292): 0rrrcccc10100011 -/
  | setsRC (f1 : RegNum) (c : BitVec 4)
  /-- MODC CN8 (R171): kkkkkkkk10100100 -/
  | modcCn8 (k : BitVec 8)
  /-- MOD4 CN8 (R172): kkkkkkkk10100101 -/
  | mod4Cn8 (k : BitVec 8)
  /-- MON C8 (R325): kkkkkkkk10100110 -/
  | mon (k : BitVec 8)
  /-- RPZ M P6.X2 (R206): xxdddddd10100111 -/
  | rpz (x : BitVec 2) (d : BitVec 6)
  /-- ADDC M CN8, R3 (R216): kkkkkkkk10101ttt -/
  | addcCn8R (k : BitVec 8) (t : RegNum)
  /-- SBNP R3, (M)C4 (R256): 0rrrcccc10110000 -/
  | sbnpRC (f1 : RegNum) (c : BitVec 4)
  /-- JON R3, LN4 (R207): 1rrrcccc10110000 -/
  | jonRLn4 (f1 : RegNum) (c : BitVec 4)
  /-- SBNP X3, (M)C4 (R256): 0rrrcccc10110001 -/
  | sbnpXC (f1 : RegNum) (c : BitVec 4)
  /-- JON X3, LN4 (R207): 1rrrcccc10110001 -/
  | jonXLn4 (f1 : RegNum) (c : BitVec 4)
  /-- SBZP R3, (M)C4 (R257): 0rrrcccc10110010 -/
  | sbzpRC (f1 : RegNum) (c : BitVec 4)
  /-- JOZ R3, LN4 (R208): 1rrrcccc10110010 -/
  | jozRLn4 (f1 : RegNum) (c : BitVec 4)
  /-- SBZP X3, (M)C4 (R257): 0rrrcccc10110011 -/
  | sbzpXC (f1 : RegNum) (c : BitVec 4)
  /-- JOZ X3, LN4 (R208): 1rrrcccc10110011 -/
  | jozXLn4 (f1 : RegNum) (c : BitVec 4)
  /-- SBN R3, (M)C4 (R254): 0rrrcccc11110000 -/
  | sbnRC (f1 : RegNum) (c : BitVec 4)
  /-- JON R3, L4 (R207): 1rrrcccc11110000 -/
  | jonRL4 (f1 : RegNum) (c : BitVec 4)
  /-- SBN X3, (M)C4 (R254): 0rrrcccc11110001 -/
  | sbnXC (f1 : RegNum) (c : BitVec 4)
  /-- JON X3, L4 (R207): 1rrrcccc11110001 -/
  | jonXL4 (f1 : RegNum) (c : BitVec 4)
  /-- SBZ R3, (M)C4 (R255): 0rrrcccc11110010 -/
  | sbzRC (f1 : RegNum) (c : BitVec 4)
  /-- JOZ R3, L4 (R208): 1rrrcccc11110010 -/
  | jozRL4 (f1 : RegNum) (c : BitVec 4)
  /-- SBZ X3, (M)C4 (R255): 0rrrcccc11110011 -/
  | sbzXC (f1 : RegNum) (c : BitVec 4)
  /-- JOZ X3, L4 (R208): 1rrrcccc11110011 -/
  | jozXL4 (f1 : RegNum) (c : BitVec 4)
  /-- SLTP R3, R3 / R3, M B0.X3 / X3, R3 / X3, M B0.X3 (R271): arrrbsss10110100 -/
  | sltpRR (a : Bool) (f1 : RegNum) (b : Bool) (f2 : RegNum)
  /-- SLOP R3, R3 / R3, M B0.X3 / X3, R3 / X3, M B0.X3 (R273): arrrbsss10110101 -/
  | slopRR (a : Bool) (f1 : RegNum) (b : Bool) (f2 : RegNum)
  /-- SGEP R3, R3 / R3, M B0.X3 / X3, R3 / X3, M B0.X3 (R270): arrrbsss10110110 -/
  | sgepRR (a : Bool) (f1 : RegNum) (b : Bool) (f2 : RegNum)
  /-- SHSP R3, R3 / R3, M B0.X3 / X3, R3 / X3, M B0.X3 (R272): arrrbsss10110111 -/
  | shspRR (a : Bool) (f1 : RegNum) (b : Bool) (f2 : RegNum)
  /-- SNEP R3, R3 / R3, M B0.X3 / X3, R3 / X3, M B0.X3 (R269): arrrbsss10111000 -/
  | snepRR (a : Bool) (f1 : RegNum) (b : Bool) (f2 : RegNum)
  /-- STC R3, M B0.X3 (R190): 0rrr0sss10111001 -/
  | stcRM (f1 f2 : RegNum)
  /-- UNS R3, M B0.X3 (R191): 0rrr1sss10111001 -/
  | unsRM (f1 f2 : RegNum)
  /-- SEQP R3, R3 / R3, M B0.X3 / X3, R3 / X3, M B0.X3 (R268): arrrbsss10111010 -/
  | seqpRR (a : Bool) (f1 : RegNum) (b : Bool) (f2 : RegNum)
  /-- MOV R3, R3 / R3, M B0.X3 (R182): arrr1sss10111011 -/
  | movR (a : Bool) (f1 f2 : RegNum)
  /-- JMP M P6.X2 (R203): xxdddddd10111111 -/
  | jmpP6 (x : BitVec 2) (d : BitVec 6)
  /-- SOB R3, M LN8 (R210): kkkkkkkk11000ttt -/
  | sob (k : BitVec 8) (t : RegNum)
  /-- ADDC M C8, R3 (R216): kkkkkkkk11001ttt -/
  | addcC8R (k : BitVec 8) (t : RegNum)
  /-- MOVL R2, M B6.X2 (R184): xxdddddd110100qq -/
  | movlStore (x : BitVec 2) (d : BitVec 6) (q : BitVec 2)
  /-- ADDU R3, R3 / R3, M B0.X3 / X3, R3 / X3, M B0.X3 (R218): arrrbsss11010100 -/
  | adduRR (a : Bool) (f1 : RegNum) (b : Bool) (f2 : RegNum)
  /-- SUBU R3, R3 / R3, M B0.X3 / X3, R3 / X3, M B0.X3 (R220): arrrbsss11010101 -/
  | subuRR (a : Bool) (f1 : RegNum) (b : Bool) (f2 : RegNum)
  /-- SIO X3, (M)R3 (R301): 0rrr1sss11010110 -/
  | sioX (f1 f2 : RegNum)
  /-- CIO X3, (M)R3 (R302): 1rrr1sss11010110 -/
  | cioX (f1 f2 : RegNum)
  /-- RIO X3, (M)R3 (R303): 0rrr1sss11010111 -/
  | rioX (f1 f2 : RegNum)
  /-- WIO X3, (M)R3 (R304): 1rrr1sss11010111 -/
  | wioX (f1 f2 : RegNum)
  /-- JMP M L10 (R201): kkkkkkkk110110qq -/
  | jmpL10 (k : BitVec 8) (q : BitVec 2)
  /-- JMP M L8 (R201): kkkkkkkk11011100 -/
  | jmpL8 (k : BitVec 8)
  /-- JMP S2, M L8 (R202): kkkkkkkk110111qq -/
  | jmpS2L8 (k : BitVec 8) (l : Link)
  /-- SLL X3, (M)C4 (R283): 1rrrcccc11100000 -/
  | sllXC (f1 : RegNum) (c : BitVec 4)
  /-- SLLL X3, (M)C4 (R285): 0rrrcccc11100001 -/
  | slllXC (f1 : RegNum) (c : BitVec 4)
  /-- SLC X3, (M)C4 (R281): 1rrrcccc11100010 -/
  | slcXC (f1 : RegNum) (c : BitVec 4)
  /-- SETS X3, C4 (R292): 0rrrcccc11100011 -/
  | setsXC (f1 : RegNum) (c : BitVec 4)
  /-- RTMI M B6 (R328): 10dddddd11100011 -/
  | rtmi (d : BitVec 6)
  /-- MODC C8 (R171): kkkkkkkk11100100 -/
  | modcC8 (k : BitVec 8)
  /-- MOD4 C8 (R172): kkkkkkkk11100101 -/
  | mod4C8 (k : BitVec 8)
  /-- RTM M P6.X2 (R327): xxdddddd11100110 -/
  | rtm (x : BitVec 2) (d : BitVec 6)
  /-- JMPI M B8 (R204): kkkkkkkk11100111 -/
  | jmpiB8 (k : BitVec 8)
  /-- XOR R3, R3 / X3, R3 (R225): arrr0sss11101000 -/
  | xor (a : Bool) (f1 f2 : RegNum)
  /-- PUT X3, X3 (R188): 1rrr1sss11101000 -/
  | putX (f1 f2 : RegNum)
  /-- MOVM X3, X3 (R187): 0rrr1sss11101001 -/
  | movm (f1 f2 : RegNum)
  /-- PUT R3, X3 (R188): 1rrr1sss11101001 -/
  | putR (f1 f2 : RegNum)
  /-- MUL R3, M B0.X3 / X3, M B0.X3 (R221): arrr1sss11101010 -/
  | mul (a : Bool) (f1 f2 : RegNum)
  /-- DIV R3, R3 / X3, R3 (R222): arrr0sss11101011 -/
  | div (a : Bool) (f1 f2 : RegNum)
  /-- XTR R3, C4 (R237): 0rrrcccc11101100 -/
  | xtrRC (f1 : RegNum) (c : BitVec 4)
  /-- XTR X3, C4 (R237): 1rrrcccc11101101 -/
  | xtrXC (f1 : RegNum) (c : BitVec 4)
  /-- XCH R3, R3 / R3, M B0.X3 (R189): 0rrrbsss11101110 -/
  | xchR (f1 : RegNum) (b : Bool) (f2 : RegNum)
  /-- XCH X3, R3 / X3, M B0.X3 (R189): 1rrrbsss11101111 -/
  | xchX (f1 : RegNum) (b : Bool) (f2 : RegNum)
  /-- SLT R3, R3 / R3, M B0.X3 / X3, R3 / X3, M B0.X3 (R265): arrrbsss11110100 -/
  | sltRR (a : Bool) (f1 : RegNum) (b : Bool) (f2 : RegNum)
  /-- SLO R3, R3 / R3, M B0.X3 / X3, R3 / X3, M B0.X3 (R267): arrrbsss11110101 -/
  | sloRR (a : Bool) (f1 : RegNum) (b : Bool) (f2 : RegNum)
  /-- SGE R3, R3 / R3, M B0.X3 / X3, R3 / X3, M B0.X3 (R264): arrrbsss11110110 -/
  | sgeRR (a : Bool) (f1 : RegNum) (b : Bool) (f2 : RegNum)
  /-- SHS R3, R3 / R3, M B0.X3 / X3, R3 / X3, M B0.X3 (R266): arrrbsss11110111 -/
  | shsRR (a : Bool) (f1 : RegNum) (b : Bool) (f2 : RegNum)
  /-- SNE R3, R3 / R3, M B0.X3 / X3, R3 / X3, M B0.X3 (R263): arrrbsss11111000 -/
  | sneRR (a : Bool) (f1 : RegNum) (b : Bool) (f2 : RegNum)
  /-- STC X3, M B0.X3 (R190): 0rrr0sss11111001 -/
  | stcXM (f1 f2 : RegNum)
  /-- UNS X3, M B0.X3 (R191): 0rrr1sss11111001 -/
  | unsXM (f1 f2 : RegNum)
  /-- SEQ R3, R3 / R3, M B0.X3 / X3, R3 / X3, M B0.X3 (R262): arrrbsss11111010 -/
  | seqRR (a : Bool) (f1 : RegNum) (b : Bool) (f2 : RegNum)
  /-- MOV X3, R3 / X3, M B0.X3 (R182): arrr1sss11111011 -/
  | movX (a : Bool) (f1 f2 : RegNum)
  /-- JMPI M P8 (R204): kkkkkkkk11111100 -/
  | jmpiP8 (k : BitVec 8)
  /-- JMPI S2, M P8 (R204): kkkkkkkk111111qq -/
  | jmpiS2P8 (k : BitVec 8) (l : Link)
  /-- LDP R3 (R323): 00000sss10111100 -/
  | ldpR (f2 : RegNum)
  /-- LDP M B0.X3 (R323): 00001sss10111100 -/
  | ldpM (f2 : RegNum)
  /-- SSS R3 (R314): 00010sss10111100 -/
  | sssR (f2 : RegNum)
  /-- SSS M B0.X3 (R314): 00011sss10111100 -/
  | sssM (f2 : RegNum)
  /-- DICP R3 (R235): 00100sss10111100 -/
  | dicpR (f2 : RegNum)
  /-- DICP M B0.X3 (R235): 00101sss10111100 -/
  | dicpM (f2 : RegNum)
  /-- DDCP R3 (R234): 00110sss10111100 -/
  | ddcpR (f2 : RegNum)
  /-- DDCP M B0.X3 (R234): 00111sss10111100 -/
  | ddcpM (f2 : RegNum)
  /-- LDN R3 (R322): 01000sss10111100 -/
  | ldnR (f2 : RegNum)
  /-- LDN M B0.X3 (R322): 01001sss10111100 -/
  | ldnM (f2 : RegNum)
  /-- LDT R3 (R315): 01010sss10111100 -/
  | ldtR (f2 : RegNum)
  /-- LDT M B0.X3 (R315): 01011sss10111100 -/
  | ldtM (f2 : RegNum)
  /-- SWP R3 (R231): 01100sss10111100 -/
  | swpR (f2 : RegNum)
  /-- SWP M B0.X3 (R231): 01101sss10111100 -/
  | swpM (f2 : RegNum)
  /-- XCU X3 (R324): 10000sss10111100 -/
  | xcu (f2 : RegNum)
  /-- XCUI M B0.X3 (R326): 10001sss10111100 -/
  | xcui (f2 : RegNum)
  /-- INV R3 (R229): 10010sss10111100 -/
  | invR (f2 : RegNum)
  /-- INV M B0.X3 (R229): 10011sss10111100 -/
  | invM (f2 : RegNum)
  /-- SVT R3 (R316): 11000sss10111100 -/
  | svtR (f2 : RegNum)
  /-- SVT M B0.X3 (R316): 11001sss10111100 -/
  | svtM (f2 : RegNum)
  /-- SVS R3 (R313): 11010sss10111100 -/
  | svsR (f2 : RegNum)
  /-- SVS M B0.X3 (R313): 11011sss10111100 -/
  | svsM (f2 : RegNum)
  /-- LDS R3 (R311): 11100sss10111100 -/
  | ldsR (f2 : RegNum)
  /-- LDS M B0.X3 (R311): 11101sss10111100 -/
  | ldsM (f2 : RegNum)
  /-- NEG R3 (R230): 11110sss10111100 -/
  | negR (f2 : RegNum)
  /-- NEG M B0.X3 (R230): 11111sss10111100 -/
  | negM (f2 : RegNum)
  /-- SLS R3 (R312): 00000sss10111101 -/
  | slsR (f2 : RegNum)
  /-- SLS M B0.X3 (R312): 00001sss10111101 -/
  | slsM (f2 : RegNum)
  /-- MODN R3 (R175): 00110sss10111101 -/
  | modnR (f2 : RegNum)
  /-- MODN X3 (R175): 00111sss10111101 -/
  | modnX (f2 : RegNum)
  /-- SVL R3 (R320): 01010sss10111101 -/
  | svlR (f2 : RegNum)
  /-- SVL M B0.X3 (R320): 01011sss10111101 -/
  | svlM (f2 : RegNum)
  /-- MOD R3 (R174): 01110sss10111101 -/
  | modR (f2 : RegNum)
  /-- MOD X3 (R174): 01111sss10111101 -/
  | modX (f2 : RegNum)
  /-- LDL R3 (R321): 10000sss10111101 -/
  | ldlR (f2 : RegNum)
  /-- LDL M B0.X3 (R321): 10001sss10111101 -/
  | ldlM (f2 : RegNum)
  /-- TRP C4 (R331): 0000cccc10111110 -/
  | trp (c : BitVec 4)
  /-- SVP L4 (R318): 0010cccc10111110 -/
  | svp (c : BitVec 4)
  /-- CPU R3 (R329): 01100sss10111110 -/
  | cpuR (f2 : RegNum)
  /-- CPU M B0.X3 (R329): 01101sss10111110 -/
  | cpuM (f2 : RegNum)
  /-- JVN M LN4 (R209): 0111cccc10111110 -/
  | jvnLn4 (c : BitVec 4)
  /-- UNS (M)C4 (R191): 1010cccc10111110 -/
  | unsC4 (c : BitVec 4)
  /-- LDM C4 (R317): 1101cccc10111110 -/
  | ldm (c : BitVec 4)
  /-- STC (M)C4 (R190): 1110cccc10111110 -/
  | stcC4 (c : BitVec 4)
  /-- JVN M L4 (R209): 1111cccc10111110 -/
  | jvnL4 (c : BitVec 4)
  /-- AAMOW AX33, AX33, R3 (R355): 0rrr0sss10000ttt -/
  | aamow (f1 f2 t : RegNum)
  /-- LAMOW X3, AX33, R3 (R356): 1rrr0sss10000ttt -/
  | lamow (f1 f2 t : RegNum)
  /-- ALMOW AX33, X3, R3 (R357): 0rrr1sss10000ttt -/
  | almow (f1 f2 t : RegNum)
  /-- AAMOB ABX33, ABX33, R3 (R358): 0rrr0sss10001ttt -/
  | aamob (f1 f2 t : RegNum)
  /-- LAMOB BX33, ABX33, R3 (R359): 1rrr0sss10001ttt -/
  | lamob (f1 f2 t : RegNum)
  /-- ALMOB ABX33, BX33, R3 (R360): 0rrr1sss10001ttt -/
  | almob (f1 f2 t : RegNum)
  /-- AMOW R3, AX33 (R361): 0rrr0sss10010001 -/
  | amowStore (f1 f2 : RegNum)
  /-- AMOW AX33, R3 (R361): 0rrr1sss10010001 -/
  | amowLoad (f1 f2 : RegNum)
  /-- AMOB R3, ABX33 (R362): 1rrr0sss10010001 -/
  | amobStore (f1 f2 : RegNum)
  /-- AMOB ABX33, R3 (R362): 1rrr1sss10010001 -/
  | amobLoad (f1 f2 : RegNum)
  /-- ARESS AX33, C4 (R363): 0rrrcccc10010010 -/
  | aress (f1 : RegNum) (c : BitVec 4)
  /-- ARELS AX33, C4 (R364): 1rrrcccc10010010 -/
  | arels (f1 : RegNum) (c : BitVec 4)
  /-- DRD R3, M R3 (R365): 0rrr0sss10010011 -/
  | drdR (f1 f2 : RegNum)
  /-- DRD X3, M R3 (R365): 0rrr1sss10010011 -/
  | drdX (f1 f2 : RegNum)
  /-- DWR R3, M R3 (R366): 1rrr0sss10010011 -/
  | dwrR (f1 f2 : RegNum)
  /-- DWR X3, M R3 (R366): 1rrr1sss10010011 -/
  | dwrX (f1 f2 : RegNum)
  /-- MRD R3, M R3 (R367): 0rrr0sss01010001 -/
  | mrdR (f1 f2 : RegNum)
  /-- MRD X3, M R3 (R367): 0rrr1sss01010001 -/
  | mrdX (f1 f2 : RegNum)
  /-- MWR R3, M R3 (R368): 1rrr0sss01010001 -/
  | mwrR (f1 f2 : RegNum)
  /-- MWR X3, M R3 (R368): 1rrr1sss01010001 -/
  | mwrX (f1 f2 : RegNum)
  /-- RSP R3 (R369): 0rrr000001010010 -/
  | rspR (f1 : RegNum)
  /-- RSP X3 (R369): 0rrr100001010010 -/
  | rspX (f1 : RegNum)
  /-- WSP R3 (R370): 1rrr000001010010 -/
  | wspR (f1 : RegNum)
  /-- WSP X3 (R370): 1rrr100001010010 -/
  | wspX (f1 : RegNum)
  /-- ARSC AX33, R3 (R371): 0rrr0sss01010011 -/
  | arsc (f1 f2 : RegNum)
  /-- ARED AX33, R3 (R372): 1rrr0sss01010011 -/
  | ared (f1 f2 : RegNum)
  /-- ALT (R335): 1011000010111100 -/
  | alt
  /-- LBR (R319): 1011000110111100 -/
  | lbr
  /-- NMI (R330): 1011001010111100 -/
  | nmi
  /-- CAE (R332): 1000000010111110 -/
  | cae
  /-- CAD (R333): 1000000110111110 -/
  | cad
  /-- TST (R334): 1000001110111110 -/
  | tst
  deriving DecidableEq, Repr

end Sys2Proof
end

