-- ==== Sys2Proof/Machine/Jump.lean ====
section
/-! DEFINITION. The jump instructions (42_jump.md, R200 to R210). -/

namespace Sys2Proof.Machine

/-- The target of a relative jump, from the location after the jump, MOD added after negation: `pc + 1 + d + MOD` (R140, R201). -/
def State.relative (s : State) (d : Word) : Word := s.pc + 1 + d + s.mod

/-- A jump with return link: the link register receives `pc + 1 - PROG` (R202). -/
def State.linked (s : State) (r : RegNum) : State := s.setReg r s.link

/-- The register of a return link (R125). -/
def linkRegister : Link → RegNum
  | .s4 => 4
  | .s5 => 5
  | .s6 => 6

/-- JMPI: the operand word is a program-relative target (R204). -/
def jumpIndirect (page : Byte) (a : Word) (s : State) : Run State := do
  let w ← s.load page a
  pure (s.jumpTo (w + s.prog))

/-- JPZI: the operand word is read from the user program page, then page zero is entered (R205). -/
def jumpPageZero (k : BitVec 8) (s : State) : Run State := do
  let w ← s.load s.progUser (s.progAddress (zext k))
  pure ((((s.setLevelFlag true).setReg 4 s.link).setPg false).jumpTo (w + s.prog))

/-- RPZ: page zero is left (R206). -/
def returnPageZero (x : BitVec 2) (d : BitVec 6) (s : State) : State :=
  ((s.setLevelFlag false).setPg true).jumpTo (s.progAddress (s.indexed x d))

/-- JON and JOZ: the jump is taken when the operand is zero, or not zero. MOD and MODIFIED are left as they are. Executed while
MODIFIED is true they are refused (R207, R208, D14, log 22). -/
def jumpOn (zero : Bool) (o : Operand) (d : Word) (s : State) : Run State :=
  if s.modified then .error (.refused .jumpWhileModified)
  else do
    let v ← s.read (o.loc s)
    pure (if (v == 0) = zero then s.advance (1 + d) else s.advance 1)

/-- JVN: the jump is taken when PSW.V is 0 (R209, C2, D11). -/
def jumpNoOverflow (d : Word) (s : State) : State := if s.overflow then s.finish else s.jumpTo (s.relative d)

/-- SOB (R210). -/
def subtractAndBranch (r : RegNum) (d : Word) (s : State) : State :=
  let s1 := s.setReg r (s.reg r - 1)
  if s1.reg r = 0 then s1.finish else s1.jumpTo (s1.relative d)

/-! ### The instructions -/

/-- JMPI M B6.X2 (R204). -/
def execJmpiB6 (x : BitVec 2) (d : BitVec 6) (s : State) : Answer :=
  outcome (jumpIndirect s.dataPage ((DataForm.disp x d).address s s.mod) s)

/-- JPZI M P8 (R205). -/
def execJpzi (k : BitVec 8) (s : State) : Answer :=
  outcome (jumpPageZero k s)

/-- JMP M LN10 (R201). -/
def execJmpLn10 (k : BitVec 8) (q : BitVec 2) (s : State) : Answer :=
  .next (s.jumpTo (s.relative (negated (disp10 k q))))

/-- JMP M LN8 (R201). -/
def execJmpLn8 (k : BitVec 8) (s : State) : Answer :=
  .next (s.jumpTo (s.relative (negated k)))

/-- JMP S2, M LN8 (R202). -/
def execJmpS2Ln8 (k : BitVec 8) (l : Link) (s : State) : Answer :=
  .next ((s.linked (linkRegister l)).jumpTo (s.relative (negated k)))

/-- RPZ M P6.X2 (R206). -/
def execRpz (x : BitVec 2) (d : BitVec 6) (s : State) : Answer :=
  .next (returnPageZero x d s)

/-- JON R3, LN4 (R207). -/
def execJonRLn4 (f1 : RegNum) (c : BitVec 4) (s : State) : Answer :=
  outcome (jumpOn false (.r3 f1) (negated c) s)

/-- JON X3, LN4 (R207). -/
def execJonXLn4 (f1 : RegNum) (c : BitVec 4) (s : State) : Answer :=
  outcome (jumpOn false (.x3 f1) (negated c) s)

/-- JOZ R3, LN4 (R208). -/
def execJozRLn4 (f1 : RegNum) (c : BitVec 4) (s : State) : Answer :=
  outcome (jumpOn true (.r3 f1) (negated c) s)

/-- JOZ X3, LN4 (R208). -/
def execJozXLn4 (f1 : RegNum) (c : BitVec 4) (s : State) : Answer :=
  outcome (jumpOn true (.x3 f1) (negated c) s)

/-- JON R3, L4 (R207). -/
def execJonRL4 (f1 : RegNum) (c : BitVec 4) (s : State) : Answer :=
  outcome (jumpOn false (.r3 f1) (zext c) s)

/-- JON X3, L4 (R207). -/
def execJonXL4 (f1 : RegNum) (c : BitVec 4) (s : State) : Answer :=
  outcome (jumpOn false (.x3 f1) (zext c) s)

/-- JOZ R3, L4 (R208). -/
def execJozRL4 (f1 : RegNum) (c : BitVec 4) (s : State) : Answer :=
  outcome (jumpOn true (.r3 f1) (zext c) s)

/-- JOZ X3, L4 (R208). -/
def execJozXL4 (f1 : RegNum) (c : BitVec 4) (s : State) : Answer :=
  outcome (jumpOn true (.x3 f1) (zext c) s)

/-- JMP M P6.X2 (R203). -/
def execJmpP6 (x : BitVec 2) (d : BitVec 6) (s : State) : Answer :=
  .next (s.jumpTo (s.progAddress (s.indexed x d)))

/-- SOB R3, M LN8 (R210). -/
def execSob (k : BitVec 8) (t : RegNum) (s : State) : Answer :=
  .next (subtractAndBranch t (negated k) s)

/-- JMP M L10 (R201). -/
def execJmpL10 (k : BitVec 8) (q : BitVec 2) (s : State) : Answer :=
  .next (s.jumpTo (s.relative (zext (disp10 k q))))

/-- JMP M L8 (R201). -/
def execJmpL8 (k : BitVec 8) (s : State) : Answer :=
  .next (s.jumpTo (s.relative (zext k)))

/-- JMP S2, M L8 (R202). -/
def execJmpS2L8 (k : BitVec 8) (l : Link) (s : State) : Answer :=
  .next ((s.linked (linkRegister l)).jumpTo (s.relative (zext k)))

/-- JMPI M B8 (R204). -/
def execJmpiB8 (k : BitVec 8) (s : State) : Answer :=
  outcome (jumpIndirect s.dataPage ((DataForm.direct k).address s s.mod) s)

/-- JMPI M P8 (R204). -/
def execJmpiP8 (k : BitVec 8) (s : State) : Answer :=
  outcome (jumpIndirect s.progCur (s.progAddress (zext k)) s)

/-- JMPI S2, M P8 (R204). -/
def execJmpiS2P8 (k : BitVec 8) (l : Link) (s : State) : Answer :=
  outcome (jumpIndirect s.progCur (s.progAddress (zext k)) (s.linked (linkRegister l)))

/-- JVN M LN4 (R209). -/
def execJvnLn4 (c : BitVec 4) (s : State) : Answer :=
  .next (jumpNoOverflow (negated c) s)

/-- JVN M L4 (R209). -/
def execJvnL4 (c : BitVec 4) (s : State) : Answer :=
  .next (jumpNoOverflow (zext c) s)

end Sys2Proof.Machine
end

