-- ==== Sys2Proof/Machine/Modify.lean ====
section
/-! DEFINITION. The modify instructions (40_modify.md, R170 to R176). Their operand is added to MOD, and is itself never modified. -/

namespace Sys2Proof.Machine

/-- `MOD <- MOD + v; MODIFIED <- TRUE; pc <- pc + 1` (R170). -/
def State.modify (s : State) (v : Word) : State := { s with mod := s.mod + v, modified := true }.advance 1

/-- A modify instruction whose operand is a register or a word of the data page (R174). -/
def modifyBy (o : Operand) (s : State) : Run State := do
  let w ← s.read (o.loc s)
  pure (s.modify w)

/-- The same with the operand negated (R175). -/
def modifyByMinus (o : Operand) (s : State) : Run State := do
  let w ← s.read (o.loc s)
  pure (s.modify (-w))

/-- The word of a P8 operand of MOD and MODN: PROG + k in the current program page, MOD not added (R170, R174). -/
def State.ownParameter (s : State) (k : BitVec 8) : Run Word := s.loadProg (s.prog + zext k)

/-! ### The instructions -/

/-- MODN B8 (R175). -/
def execModnB8 (k : BitVec 8) (s : State) : Answer :=
  outcome (modifyByMinus (.mem (.direct k) false) s)

/-- MODN P8 (R175). -/
def execModnP8 (k : BitVec 8) (s : State) : Answer :=
  outcome ((s.ownParameter k).map fun w => s.modify (-w))

/-- MOD B6.X2 (R174). -/
def execModB6 (x : BitVec 2) (d : BitVec 6) (s : State) : Answer :=
  outcome (modifyBy (.mem (.disp x d) false) s)

/-- MODN B6.X2 (R175). -/
def execModnB6 (x : BitVec 2) (d : BitVec 6) (s : State) : Answer :=
  outcome (modifyByMinus (.mem (.disp x d) false) s)

/-- MOD8 C8 (R173). -/
def execMod8 (k : BitVec 8) (s : State) : Answer :=
  .next (s.modify (zext k <<< 8))

/-- MOD B8 (R174). -/
def execModB8 (k : BitVec 8) (s : State) : Answer :=
  outcome (modifyBy (.mem (.direct k) false) s)

/-- MOD P8 (R174). -/
def execModP8 (k : BitVec 8) (s : State) : Answer :=
  outcome ((s.ownParameter k).map fun w => s.modify w)

/-- MODC CN8 (R171). -/
def execModcCn8 (k : BitVec 8) (s : State) : Answer :=
  .next (s.modify (negated k))

/-- MOD4 CN8 (R172). -/
def execMod4Cn8 (k : BitVec 8) (s : State) : Answer :=
  .next (s.modify (-(zext k <<< 4)))

/-- MODC C8 (R171). -/
def execModcC8 (k : BitVec 8) (s : State) : Answer :=
  .next (s.modify (zext k))

/-- MOD4 C8 (R172). -/
def execMod4C8 (k : BitVec 8) (s : State) : Answer :=
  .next (s.modify (zext k <<< 4))

/-- MODN R3 (R175). -/
def execModnR (f2 : RegNum) (s : State) : Answer :=
  outcome (modifyByMinus (.r3 f2) s)

/-- MODN X3 (R175). -/
def execModnX (f2 : RegNum) (s : State) : Answer :=
  outcome (modifyByMinus (.x3 f2) s)

/-- MOD R3 (R174). -/
def execModR (f2 : RegNum) (s : State) : Answer :=
  outcome (modifyBy (.r3 f2) s)

/-- MOD X3 (R174). -/
def execModX (f2 : RegNum) (s : State) : Answer :=
  outcome (modifyBy (.x3 f2) s)

end Sys2Proof.Machine
end

