-- ==== Sys2Proof/Machine/Move.lean ====
section
/-! DEFINITION. The move instructions (41_move.md, R180 to R191). -/

namespace Sys2Proof.Machine

/-- A value put at a destination: `OP2 := v; CLEAR MODIFICATION` (R181). -/
def moveValue (v : Word) (dst : Operand) (s : State) : Run State := do
  let t ← s.write (dst.loc s) v
  pure t.finish

/-- `OP2 := OP1; CLEAR MODIFICATION` (R182). -/
def move (src dst : Operand) (s : State) : Run State := do
  let v ← s.read (src.loc s)
  let t ← s.write (dst.loc s) v
  pure t.finish

/-- A word of a program page into a register (R182, R185, R186). -/
def moveProgram (page : Byte) (a : Word) (r : RegNum) (s : State) : Run State := do
  let v ← s.load page a
  pure (s.setReg r v).finish

/-- MOVB, load: the byte in the lower half, zeros above (R183). -/
def moveByteIn (ba : Nat) (r : RegNum) (s : State) : Run State := do
  let v ← s.loadByte s.dataPage ba
  pure (s.setReg r (zext v)).finish

/-- MOVB, store: the lower byte of the register (R183). -/
def moveByteOut (r : RegNum) (ba : Nat) (s : State) : Run State := do
  let t ← s.storeByte s.dataPage ba (lowByte (s.reg r))
  pure t.finish

/-- MOVL, load: two words one after the other, the address formed first (R184). -/
def moveLongIn (a : Word) (r : RegNum) (s : State) : Run State := do
  let v ← s.loadData a
  let s1 := s.setReg r v
  let w ← s1.loadData (a + 1)
  pure (s1.setReg (succReg r) w).finish

/-- MOVL, store (R184). -/
def moveLongOut (r : RegNum) (a : Word) (s : State) : Run State := do
  let s1 ← s.storeData a (s.reg r)
  let s2 ← s1.storeData (a + 1) (s1.reg (succReg r))
  pure s2.finish

/-- The page of MMP: the caller's (R186). -/
def State.monitorCallerPage (s : State) : Byte := if s.level = 1 ∨ s.level = 0x8000 then s.progUser else s.progSys

/-- The number of words MOVM moves, 1 to 16: `1 + ((MOD - 1) mod 16)` (R187). -/
def State.moveCount (s : State) : Nat := 1 + (s.mod - 1).toNat % 16

/-- The loop of MOVM: one word at a time, both pointers incremented (R187). -/
def moveWords (f1 f2 : RegNum) : Nat → State → Run State
  | 0, s => .ok s
  | n + 1, s => do
    let v ← s.loadData (s.base + s.reg f1)
    let s1 ← s.storeData (s.base + s.reg f2) v
    let s2 := s1.setReg f1 (s1.reg f1 + 1)
    moveWords f1 f2 n (s2.setReg f2 (s2.reg f2 + 1))

/-- MOVM (R187). -/
def moveMultiple (f1 f2 : RegNum) (s : State) : Run State := do
  let t ← moveWords f1 f2 s.moveCount s
  pure t.finish

/-- The bits of `v` where the mask has ones, those of `w` elsewhere (R188). -/
def merge (w v mask : Word) : Word := (w &&& ~~~mask) ||| (v &&& mask)

/-- PUT: `OP2 := (OP2 AND (NOT MOD)) OR (OP1 AND MOD)` (R188). -/
def put (src : Operand) (f2 : RegNum) (s : State) : Run State := do
  let v ← s.read (src.loc s)
  let w ← s.loadData (s.base + s.reg f2)
  let t ← s.storeData (s.base + s.reg f2) (merge w v s.mod)
  pure t.finish

/-- XCH: `WORK := OP2; OP2 := OP1; OP1 := WORK` (R189). -/
def exchange (o1 o2 : Operand) (s : State) : Run State := do
  let w ← s.read (o2.loc s)
  let v ← s.read (o1.loc s)
  let s1 ← s.write (o2.loc s) v
  let s2 ← s1.write (o1.loc s) w
  pure s2.finish

/-- STC, value: the pointer is incremented first, then OP1 is evaluated and stored at the new top (R190, D28). -/
def stackValue (src : Operand) (f2 : RegNum) (s : State) : Run State := do
  let s1 := s.setReg f2 (s.reg f2 + 1)
  let v ← s1.read (src.loc s1)
  let s2 ← s1.storeData (s1.base + s1.reg f2 + s1.mod) v
  pure s2.finish

/-- UNS, value: OP1 receives the top of the stack, then the pointer is decremented. OP1's address is formed before (R191). -/
def unstackValue (dst : Operand) (f2 : RegNum) (s : State) : Run State := do
  let v ← s.loadData (s.base + s.reg f2 + s.mod)
  let s1 ← s.write (dst.loc s) v
  pure (s1.setReg f2 (s1.reg f2 - 1)).finish

/-- Registers stacked in the order of a list, each below the one before, x[7] pointing at the last (R190). -/
def stackRegisters : List RegNum → State → Run State
  | [], s => .ok s
  | r :: t, s => do
    let s1 := s.setReg 7 (s.reg 7 - 1)
    let s2 ← s1.storeData (s1.base + s1.reg 7 + s1.mod) (s1.reg r)
    stackRegisters t s2

/-- STC C4: registers 15-C4 down to 0 (R190). With C4 < 8 it would name registers that do not exist: refused (D30, log 23). -/
def stackMany (c : BitVec 4) (s : State) : Run State :=
  if c < 8 then .error (.refused (.noSuchRegister c))
  else do
    let t ← stackRegisters (regsUpTo (15 - c.toNat)).reverse s
    pure t.finish

/-- The advance of the stack pointer in UNS C4 (R191, D29). -/
def State.unstackAdvance (s : State) (cnt : Nat) : Word :=
  match s.plat.unsAdvance with
  | .cnt => BitVec.ofNat 16 cnt
  | .cntPlusOne => BitVec.ofNat 16 (cnt + 1)

/-- UNS C4: the pointer is advanced, then registers 0 to 15-C4 are loaded from where it was (R191, C10). With C4 < 8: refused (log 23). -/
def unstackMany (c : BitVec 4) (s : State) : Run State :=
  if c < 8 then .error (.refused (.noSuchRegister c))
  else do
    let s1 := s.setReg 7 (s.reg 7 + s.unstackAdvance (15 - c.toNat))
    let t ← s1.loadRegisters s1.dataPage (s.base + s.reg 7 + s.mod) (regsUpTo (15 - c.toNat))
    pure t.finish

/-! ### The instructions -/

/-- MOVC M CN4, X3 (R181). -/
def execMovcCn4X (f1 : RegNum) (c : BitVec 4) (s : State) : Answer :=
  outcome (moveValue (negated c + s.mod) (.x3 f1) s)

/-- MMP M P0.X3, R3 (R186). -/
def execMmp (f1 f2 : RegNum) (s : State) : Answer :=
  outcome (moveProgram s.monitorCallerPage (s.progAddress (s.reg f1)) f2 s)

/-- MOV M B6.X2, R3 (R182). -/
def execMovB6R (x : BitVec 2) (d : BitVec 6) (t : RegNum) (s : State) : Answer :=
  outcome (move (.b6x2 x d) (.r3 t) s)

/-- MVP M P6.X2, R2 (R185). -/
def execMvp (x : BitVec 2) (d : BitVec 6) (q : BitVec 2) (s : State) : Answer :=
  outcome (moveProgram s.progCur (s.progAddress (s.indexed x d)) (lowReg q) s)

/-- MOVC M CN8, R3 (R181). -/
def execMovcCn8R (k : BitVec 8) (t : RegNum) (s : State) : Answer :=
  outcome (moveValue (negated k + s.mod) (.r3 t) s)

/-- MOVC M C8, R3 (R181). -/
def execMovcC8R (k : BitVec 8) (t : RegNum) (s : State) : Answer :=
  outcome (moveValue (zext k + s.mod) (.r3 t) s)

/-- MOVC M C4, X3 (R181). -/
def execMovcC4X (f1 : RegNum) (c : BitVec 4) (s : State) : Answer :=
  outcome (moveValue (zext c + s.mod) (.x3 f1) s)

/-- MOVL B6.X2, R2 (R184). -/
def execMovlLoad (x : BitVec 2) (d : BitVec 6) (q : BitVec 2) (s : State) : Answer :=
  outcome (moveLongIn ((DataForm.disp x d).address s 0) (lowReg q) s)

/-- MOV M B8, R3 (R182). -/
def execMovB8R (k : BitVec 8) (t : RegNum) (s : State) : Answer :=
  outcome (move (.b8 k) (.r3 t) s)

/-- MOV R3, M B8 (R182). -/
def execMovRB8 (k : BitVec 8) (t : RegNum) (s : State) : Answer :=
  outcome (move (.r3 t) (.b8 k) s)

/-- MOVB M BB6.X2, R2 (R183). -/
def execMovbLoad (x : BitVec 2) (d : BitVec 6) (q : BitVec 2) (s : State) : Answer :=
  outcome (moveByteIn (s.byteAddress x d) (lowReg q) s)

/-- MOV R3, M B6.X2 (R182). -/
def execMovRB6 (x : BitVec 2) (d : BitVec 6) (t : RegNum) (s : State) : Answer :=
  outcome (move (.r3 t) (.b6x2 x d) s)

/-- MOVB R2, M BB6.X2 (R183). -/
def execMovbStore (x : BitVec 2) (d : BitVec 6) (q : BitVec 2) (s : State) : Answer :=
  outcome (moveByteOut (lowReg q) (s.byteAddress x d) s)

/-- MOV M P8, R3 (R182). -/
def execMovP8R (k : BitVec 8) (t : RegNum) (s : State) : Answer :=
  outcome (moveProgram s.progCur (s.progAddress (zext k)) t s)

/-- STC R3, M B0.X3 (R190). -/
def execStcRM (f1 f2 : RegNum) (s : State) : Answer :=
  outcome (stackValue (.r3 f1) f2 s)

/-- UNS R3, M B0.X3 (R191). -/
def execUnsRM (f1 f2 : RegNum) (s : State) : Answer :=
  outcome (unstackValue (.r3 f1) f2 s)

/-- MOV R3, R3 / R3, M B0.X3 (R182). -/
def execMovR (a : Bool) (f1 f2 : RegNum) (s : State) : Answer :=
  outcome (move (.r3 f1) (op2 a f2) s)

/-- MOVL R2, M B6.X2 (R184). -/
def execMovlStore (x : BitVec 2) (d : BitVec 6) (q : BitVec 2) (s : State) : Answer :=
  outcome (moveLongOut (lowReg q) ((DataForm.disp x d).address s s.mod) s)

/-- PUT X3, X3 (R188). -/
def execPutX (f1 f2 : RegNum) (s : State) : Answer :=
  outcome (put (.x3 f1) f2 s)

/-- MOVM X3, X3 (R187). -/
def execMovm (f1 f2 : RegNum) (s : State) : Answer :=
  outcome (moveMultiple f1 f2 s)

/-- PUT R3, X3 (R188). -/
def execPutR (f1 f2 : RegNum) (s : State) : Answer :=
  outcome (put (.r3 f1) f2 s)

/-- XCH R3, R3 / R3, M B0.X3 (R189). -/
def execXchR (f1 : RegNum) (b : Bool) (f2 : RegNum) (s : State) : Answer :=
  outcome (exchange (.r3 f1) (op2 b f2) s)

/-- XCH X3, R3 / X3, M B0.X3 (R189). -/
def execXchX (f1 : RegNum) (b : Bool) (f2 : RegNum) (s : State) : Answer :=
  outcome (exchange (.x3 f1) (op2 b f2) s)

/-- STC X3, M B0.X3 (R190). -/
def execStcXM (f1 f2 : RegNum) (s : State) : Answer :=
  outcome (stackValue (.x3 f1) f2 s)

/-- UNS X3, M B0.X3 (R191). -/
def execUnsXM (f1 f2 : RegNum) (s : State) : Answer :=
  outcome (unstackValue (.x3 f1) f2 s)

/-- MOV X3, R3 / X3, M B0.X3 (R182). -/
def execMovX (a : Bool) (f1 f2 : RegNum) (s : State) : Answer :=
  outcome (move (.x3 f1) (op2 a f2) s)

/-- UNS (M)C4 (R191). -/
def execUnsC4 (c : BitVec 4) (s : State) : Answer :=
  outcome (unstackMany c s)

/-- STC (M)C4 (R190). -/
def execStcC4 (c : BitVec 4) (s : State) : Answer :=
  outcome (stackMany c s)

end Sys2Proof.Machine
end

