-- ==== Sys2Proof/Machine/Shift.lean ====
section
/-! DEFINITION. The shift instructions (45_shift.md, R280 to R286). The count is `State.shiftCount` (Operands.lean). -/

namespace Sys2Proof.Machine

/-- A single shift: the operand read once, shifted, written back once (R280). -/
def shift (f : Word → Nat → Word) (o : Operand) (c : BitVec 4) (s : State) : Run State := do
  let v ← s.read (o.loc s)
  let t ← s.write (o.loc s) (f v (s.shiftCount c))
  pure t.finish

/-- SLC: rotate left (R281). -/
def rotateWord (v : Word) (n : Nat) : Word := v.rotateLeft n

/-- SRA: shift right, the sign copied (R282). -/
def shiftArithmetic (v : Word) (n : Nat) : Word := v.sshiftRight n

/-- SLL: shift left, zeros entering (R283). -/
def shiftLeftWord (v : Word) (n : Nat) : Word := v <<< n

/-- SRL: shift right, zeros entering (R284). -/
def shiftRightWord (v : Word) (n : Nat) : Word := v >>> n

/-- SLLL (R285). -/
def shiftLeftLong (v : BitVec 32) (n : Nat) : BitVec 32 := v <<< n

/-- SRLL (R286). -/
def shiftRightLong (v : BitVec 32) (n : Nat) : BitVec 32 := v >>> n

/-- A long shift: the operand is the low half, its successor the high half; both read, both written, the operand first
(R285, R286; that it is also read first: DEDUCED, log 37). -/
def shiftLong (f : BitVec 32 → Nat → BitVec 32) (o : Operand) (c : BitVec 4) (s : State) : Run State := do
  let l := o.loc s
  let low ← s.read l
  let high ← s.read l.succ
  let r := f (high ++ low) (s.shiftCount c)
  let s1 ← s.write l (r.extractLsb' 0 16)
  let s2 ← s1.write l.succ (r.extractLsb' 16 16)
  pure s2.finish

/-! ### The instructions -/

/-- SRL R3, (M)C4 (R284). -/
def execSrlRC (f1 : RegNum) (c : BitVec 4) (s : State) : Answer :=
  outcome (shift shiftRightWord (.r3 f1) c s)

/-- SRLL R3, (M)C4 (R286). -/
def execSrllRC (f1 : RegNum) (c : BitVec 4) (s : State) : Answer :=
  outcome (shiftLong shiftRightLong (.r3 f1) c s)

/-- SRA R3, (M)C4 (R282). -/
def execSraRC (f1 : RegNum) (c : BitVec 4) (s : State) : Answer :=
  outcome (shift shiftArithmetic (.r3 f1) c s)

/-- SRL X3, (M)C4 (R284). -/
def execSrlXC (f1 : RegNum) (c : BitVec 4) (s : State) : Answer :=
  outcome (shift shiftRightWord (.x3 f1) c s)

/-- SRLL X3, (M)C4 (R286). -/
def execSrllXC (f1 : RegNum) (c : BitVec 4) (s : State) : Answer :=
  outcome (shiftLong shiftRightLong (.x3 f1) c s)

/-- SRA X3, (M)C4 (R282). -/
def execSraXC (f1 : RegNum) (c : BitVec 4) (s : State) : Answer :=
  outcome (shift shiftArithmetic (.x3 f1) c s)

/-- SLL R3, (M)C4 (R283). -/
def execSllRC (f1 : RegNum) (c : BitVec 4) (s : State) : Answer :=
  outcome (shift shiftLeftWord (.r3 f1) c s)

/-- SLLL R3, (M)C4 (R285). -/
def execSlllRC (f1 : RegNum) (c : BitVec 4) (s : State) : Answer :=
  outcome (shiftLong shiftLeftLong (.r3 f1) c s)

/-- SLC R3, (M)C4 (R281). -/
def execSlcRC (f1 : RegNum) (c : BitVec 4) (s : State) : Answer :=
  outcome (shift rotateWord (.r3 f1) c s)

/-- SLL X3, (M)C4 (R283). -/
def execSllXC (f1 : RegNum) (c : BitVec 4) (s : State) : Answer :=
  outcome (shift shiftLeftWord (.x3 f1) c s)

/-- SLLL X3, (M)C4 (R285). -/
def execSlllXC (f1 : RegNum) (c : BitVec 4) (s : State) : Answer :=
  outcome (shiftLong shiftLeftLong (.x3 f1) c s)

/-- SLC X3, (M)C4 (R281). -/
def execSlcXC (f1 : RegNum) (c : BitVec 4) (s : State) : Answer :=
  outcome (shift rotateWord (.x3 f1) c s)

end Sys2Proof.Machine
end

