-- ==== Sys2Proof/Machine/Skip.lean ====
section
/-! DEFINITION. The skip instructions (44_skip.md, R250 to R273). -/

namespace Sys2Proof.Machine

/-- `Skip(cond, pair)`: 1 location on, 2 or 3 when the condition holds; ClearModification (R250). -/
def State.skip (s : State) (cond pair : Bool) : State :=
  s.clearModification.advance (if cond then (if pair then 3 else 2) else 1)

/-- Skip on bit: the bit has the wanted value (R251). -/
def skipBit (want pair : Bool) (o : Operand) (c : BitVec 4) (s : State) : Run State := do
  let v ← s.read (o.loc s)
  pure (s.skip (v.getLsbD (s.bitNumber c) == want) pair)

/-- Skip on operand: it is zero, or not zero (R252). -/
def skipZero (zero pair : Bool) (o : Operand) (s : State) : Run State := do
  let v ← s.read (o.loc s)
  pure (s.skip ((v == 0) == zero) pair)

/-- OP1 less than OP2, signed (R253). -/
def lessSigned (a b : Word) : Bool := decide (a.toInt < b.toInt)

/-- OP1 less than OP2, unsigned (R253). -/
def lessUnsigned (a b : Word) : Bool := decide (a.toNat < b.toNat)

/-- Skip on condition with a constant as OP2: the relation has the wanted value (R253). -/
def skipConstant (rel : Word → Word → Bool) (want pair : Bool) (o : Operand) (c : Word) (s : State) : Run State := do
  let v ← s.read (o.loc s)
  pure (s.skip (rel v (c + s.mod) == want) pair)

/-- Skip on condition with two operands, OP1 read first, as R253 lists them (DEDUCED, log 37). -/
def skipCompare (rel : Word → Word → Bool) (want pair : Bool) (o1 o2 : Operand) (s : State) : Run State := do
  let v ← s.read (o1.loc s)
  let w ← s.read (o2.loc s)
  pure (s.skip (rel v w == want) pair)

/-- The relation of SEQ and SNE. -/
def equalWords (a b : Word) : Bool := a == b

/-! ### The instructions -/

/-- SLTP R3, M C4 (R271). -/
def execSltpRC (f1 : RegNum) (c : BitVec 4) (s : State) : Answer :=
  outcome (skipConstant lessSigned true true (.r3 f1) (zext c) s)

/-- SLTP X3, M C4 (R271). -/
def execSltpXC (f1 : RegNum) (c : BitVec 4) (s : State) : Answer :=
  outcome (skipConstant lessSigned true true (.x3 f1) (zext c) s)

/-- SGEP R3, M C4 (R270). -/
def execSgepRC (f1 : RegNum) (c : BitVec 4) (s : State) : Answer :=
  outcome (skipConstant lessSigned false true (.r3 f1) (zext c) s)

/-- SGEP X3, M C4 (R270). -/
def execSgepXC (f1 : RegNum) (c : BitVec 4) (s : State) : Answer :=
  outcome (skipConstant lessSigned false true (.x3 f1) (zext c) s)

/-- SLOP R3, M C4 (R273). -/
def execSlopRC (f1 : RegNum) (c : BitVec 4) (s : State) : Answer :=
  outcome (skipConstant lessUnsigned true true (.r3 f1) (zext c) s)

/-- SLOP X3, M C4 (R273). -/
def execSlopXC (f1 : RegNum) (c : BitVec 4) (s : State) : Answer :=
  outcome (skipConstant lessUnsigned true true (.x3 f1) (zext c) s)

/-- SHSP R3, M C4 (R272). -/
def execShspRC (f1 : RegNum) (c : BitVec 4) (s : State) : Answer :=
  outcome (skipConstant lessUnsigned false true (.r3 f1) (zext c) s)

/-- SHSP X3, M C4 (R272). -/
def execShspXC (f1 : RegNum) (c : BitVec 4) (s : State) : Answer :=
  outcome (skipConstant lessUnsigned false true (.x3 f1) (zext c) s)

/-- SLT R3, M C4 (R265). -/
def execSltRC (f1 : RegNum) (c : BitVec 4) (s : State) : Answer :=
  outcome (skipConstant lessSigned true false (.r3 f1) (zext c) s)

/-- SLT X3, M C4 (R265). -/
def execSltXC (f1 : RegNum) (c : BitVec 4) (s : State) : Answer :=
  outcome (skipConstant lessSigned true false (.x3 f1) (zext c) s)

/-- SGE R3, M C4 (R264). -/
def execSgeRC (f1 : RegNum) (c : BitVec 4) (s : State) : Answer :=
  outcome (skipConstant lessSigned false false (.r3 f1) (zext c) s)

/-- SGE X3, M C4 (R264). -/
def execSgeXC (f1 : RegNum) (c : BitVec 4) (s : State) : Answer :=
  outcome (skipConstant lessSigned false false (.x3 f1) (zext c) s)

/-- SLO R3, M C4 (R267). -/
def execSloRC (f1 : RegNum) (c : BitVec 4) (s : State) : Answer :=
  outcome (skipConstant lessUnsigned true false (.r3 f1) (zext c) s)

/-- SLO X3, M C4 (R267). -/
def execSloXC (f1 : RegNum) (c : BitVec 4) (s : State) : Answer :=
  outcome (skipConstant lessUnsigned true false (.x3 f1) (zext c) s)

/-- SHS R3, M C4 (R266). -/
def execShsRC (f1 : RegNum) (c : BitVec 4) (s : State) : Answer :=
  outcome (skipConstant lessUnsigned false false (.r3 f1) (zext c) s)

/-- SHS X3, M C4 (R266). -/
def execShsXC (f1 : RegNum) (c : BitVec 4) (s : State) : Answer :=
  outcome (skipConstant lessUnsigned false false (.x3 f1) (zext c) s)

/-- SOZP M B6.X2 (R261). -/
def execSozp (x : BitVec 2) (d : BitVec 6) (s : State) : Answer :=
  outcome (skipZero true true (.b6x2 x d) s)

/-- SONP M B6.X2 (R260). -/
def execSonp (x : BitVec 2) (d : BitVec 6) (s : State) : Answer :=
  outcome (skipZero false true (.b6x2 x d) s)

/-- SOZ M B6.X2 (R259). -/
def execSoz (x : BitVec 2) (d : BitVec 6) (s : State) : Answer :=
  outcome (skipZero true false (.b6x2 x d) s)

/-- SON M B6.X2 (R258). -/
def execSon (x : BitVec 2) (d : BitVec 6) (s : State) : Answer :=
  outcome (skipZero false false (.b6x2 x d) s)

/-- SNEP R3, M CN4 (R269). -/
def execSnepRCn (f1 : RegNum) (c : BitVec 4) (s : State) : Answer :=
  outcome (skipConstant equalWords false true (.r3 f1) (negated c) s)

/-- SNEP R3, M C4 (R269). -/
def execSnepRC (f1 : RegNum) (c : BitVec 4) (s : State) : Answer :=
  outcome (skipConstant equalWords false true (.r3 f1) (zext c) s)

/-- SNEP X3, M CN4 (R269). -/
def execSnepXCn (f1 : RegNum) (c : BitVec 4) (s : State) : Answer :=
  outcome (skipConstant equalWords false true (.x3 f1) (negated c) s)

/-- SNEP X3, M C4 (R269). -/
def execSnepXC (f1 : RegNum) (c : BitVec 4) (s : State) : Answer :=
  outcome (skipConstant equalWords false true (.x3 f1) (zext c) s)

/-- SEQP R3, M CN4 (R268). -/
def execSeqpRCn (f1 : RegNum) (c : BitVec 4) (s : State) : Answer :=
  outcome (skipConstant equalWords true true (.r3 f1) (negated c) s)

/-- SEQP R3, M C4 (R268). -/
def execSeqpRC (f1 : RegNum) (c : BitVec 4) (s : State) : Answer :=
  outcome (skipConstant equalWords true true (.r3 f1) (zext c) s)

/-- SEQP X3, M CN4 (R268). -/
def execSeqpXCn (f1 : RegNum) (c : BitVec 4) (s : State) : Answer :=
  outcome (skipConstant equalWords true true (.x3 f1) (negated c) s)

/-- SEQP X3, M C4 (R268). -/
def execSeqpXC (f1 : RegNum) (c : BitVec 4) (s : State) : Answer :=
  outcome (skipConstant equalWords true true (.x3 f1) (zext c) s)

/-- SNE R3, M CN4 (R263). -/
def execSneRCn (f1 : RegNum) (c : BitVec 4) (s : State) : Answer :=
  outcome (skipConstant equalWords false false (.r3 f1) (negated c) s)

/-- SNE R3, M C4 (R263). -/
def execSneRC (f1 : RegNum) (c : BitVec 4) (s : State) : Answer :=
  outcome (skipConstant equalWords false false (.r3 f1) (zext c) s)

/-- SNE X3, M CN4 (R263). -/
def execSneXCn (f1 : RegNum) (c : BitVec 4) (s : State) : Answer :=
  outcome (skipConstant equalWords false false (.x3 f1) (negated c) s)

/-- SNE X3, M C4 (R263). -/
def execSneXC (f1 : RegNum) (c : BitVec 4) (s : State) : Answer :=
  outcome (skipConstant equalWords false false (.x3 f1) (zext c) s)

/-- SEQ R3, M CN4 (R262). -/
def execSeqRCn (f1 : RegNum) (c : BitVec 4) (s : State) : Answer :=
  outcome (skipConstant equalWords true false (.r3 f1) (negated c) s)

/-- SEQ R3, M C4 (R262). -/
def execSeqRC (f1 : RegNum) (c : BitVec 4) (s : State) : Answer :=
  outcome (skipConstant equalWords true false (.r3 f1) (zext c) s)

/-- SEQ X3, M CN4 (R262). -/
def execSeqXCn (f1 : RegNum) (c : BitVec 4) (s : State) : Answer :=
  outcome (skipConstant equalWords true false (.x3 f1) (negated c) s)

/-- SEQ X3, M C4 (R262). -/
def execSeqXC (f1 : RegNum) (c : BitVec 4) (s : State) : Answer :=
  outcome (skipConstant equalWords true false (.x3 f1) (zext c) s)

/-- SBNP R3, (M)C4 (R256). -/
def execSbnpRC (f1 : RegNum) (c : BitVec 4) (s : State) : Answer :=
  outcome (skipBit true true (.r3 f1) c s)

/-- SBNP X3, (M)C4 (R256). -/
def execSbnpXC (f1 : RegNum) (c : BitVec 4) (s : State) : Answer :=
  outcome (skipBit true true (.x3 f1) c s)

/-- SBZP R3, (M)C4 (R257). -/
def execSbzpRC (f1 : RegNum) (c : BitVec 4) (s : State) : Answer :=
  outcome (skipBit false true (.r3 f1) c s)

/-- SBZP X3, (M)C4 (R257). -/
def execSbzpXC (f1 : RegNum) (c : BitVec 4) (s : State) : Answer :=
  outcome (skipBit false true (.x3 f1) c s)

/-- SBN R3, (M)C4 (R254). -/
def execSbnRC (f1 : RegNum) (c : BitVec 4) (s : State) : Answer :=
  outcome (skipBit true false (.r3 f1) c s)

/-- SBN X3, (M)C4 (R254). -/
def execSbnXC (f1 : RegNum) (c : BitVec 4) (s : State) : Answer :=
  outcome (skipBit true false (.x3 f1) c s)

/-- SBZ R3, (M)C4 (R255). -/
def execSbzRC (f1 : RegNum) (c : BitVec 4) (s : State) : Answer :=
  outcome (skipBit false false (.r3 f1) c s)

/-- SBZ X3, (M)C4 (R255). -/
def execSbzXC (f1 : RegNum) (c : BitVec 4) (s : State) : Answer :=
  outcome (skipBit false false (.x3 f1) c s)

/-- SLTP R3, R3 / R3, M B0.X3 / X3, R3 / X3, M B0.X3 (R271). -/
def execSltpRR (a : Bool) (f1 : RegNum) (b : Bool) (f2 : RegNum) (s : State) : Answer :=
  outcome (skipCompare lessSigned true true (op1 a f1) (op2 b f2) s)

/-- SLOP R3, R3 / R3, M B0.X3 / X3, R3 / X3, M B0.X3 (R273). -/
def execSlopRR (a : Bool) (f1 : RegNum) (b : Bool) (f2 : RegNum) (s : State) : Answer :=
  outcome (skipCompare lessUnsigned true true (op1 a f1) (op2 b f2) s)

/-- SGEP R3, R3 / R3, M B0.X3 / X3, R3 / X3, M B0.X3 (R270). -/
def execSgepRR (a : Bool) (f1 : RegNum) (b : Bool) (f2 : RegNum) (s : State) : Answer :=
  outcome (skipCompare lessSigned false true (op1 a f1) (op2 b f2) s)

/-- SHSP R3, R3 / R3, M B0.X3 / X3, R3 / X3, M B0.X3 (R272). -/
def execShspRR (a : Bool) (f1 : RegNum) (b : Bool) (f2 : RegNum) (s : State) : Answer :=
  outcome (skipCompare lessUnsigned false true (op1 a f1) (op2 b f2) s)

/-- SNEP R3, R3 / R3, M B0.X3 / X3, R3 / X3, M B0.X3 (R269). -/
def execSnepRR (a : Bool) (f1 : RegNum) (b : Bool) (f2 : RegNum) (s : State) : Answer :=
  outcome (skipCompare equalWords false true (op1 a f1) (op2 b f2) s)

/-- SEQP R3, R3 / R3, M B0.X3 / X3, R3 / X3, M B0.X3 (R268). -/
def execSeqpRR (a : Bool) (f1 : RegNum) (b : Bool) (f2 : RegNum) (s : State) : Answer :=
  outcome (skipCompare equalWords true true (op1 a f1) (op2 b f2) s)

/-- SLT R3, R3 / R3, M B0.X3 / X3, R3 / X3, M B0.X3 (R265). -/
def execSltRR (a : Bool) (f1 : RegNum) (b : Bool) (f2 : RegNum) (s : State) : Answer :=
  outcome (skipCompare lessSigned true false (op1 a f1) (op2 b f2) s)

/-- SLO R3, R3 / R3, M B0.X3 / X3, R3 / X3, M B0.X3 (R267). -/
def execSloRR (a : Bool) (f1 : RegNum) (b : Bool) (f2 : RegNum) (s : State) : Answer :=
  outcome (skipCompare lessUnsigned true false (op1 a f1) (op2 b f2) s)

/-- SGE R3, R3 / R3, M B0.X3 / X3, R3 / X3, M B0.X3 (R264). -/
def execSgeRR (a : Bool) (f1 : RegNum) (b : Bool) (f2 : RegNum) (s : State) : Answer :=
  outcome (skipCompare lessSigned false false (op1 a f1) (op2 b f2) s)

/-- SHS R3, R3 / R3, M B0.X3 / X3, R3 / X3, M B0.X3 (R266). -/
def execShsRR (a : Bool) (f1 : RegNum) (b : Bool) (f2 : RegNum) (s : State) : Answer :=
  outcome (skipCompare lessUnsigned false false (op1 a f1) (op2 b f2) s)

/-- SNE R3, R3 / R3, M B0.X3 / X3, R3 / X3, M B0.X3 (R263). -/
def execSneRR (a : Bool) (f1 : RegNum) (b : Bool) (f2 : RegNum) (s : State) : Answer :=
  outcome (skipCompare equalWords false false (op1 a f1) (op2 b f2) s)

/-- SEQ R3, R3 / R3, M B0.X3 / X3, R3 / X3, M B0.X3 (R262). -/
def execSeqRR (a : Bool) (f1 : RegNum) (b : Bool) (f2 : RegNum) (s : State) : Answer :=
  outcome (skipCompare equalWords true false (op1 a f1) (op2 b f2) s)

end Sys2Proof.Machine
end

