-- ==== Sys2Proof/Machine/Special.lean ====
section
/-! DEFINITION. The special instructions (48_special.md, R310 to R336): status, timer, level and bound, process save and load,
execute, monitor call, trap, cache and test, and the switch to the alternative set. -/

namespace Sys2Proof.Machine

/-- A register of the CPU saved to the operand: SVS, SSS, SVT, SVL (R313, R316, R320). -/
def saveValue (v : Word) (o : Operand) (s : State) : Run State := do
  let t ← s.write (o.loc s) v
  pure t.finish

/-- The whole PSW replaced, and UMAP bits 1:0 by its bits 3:2, between the two cache statements of CPU type 7; the first tests the
old PSW, the second the new (R311). -/
def State.loadPsw (s : State) (v : Word) : State :=
  let s1 := s.bracketCache false
  { s1 with psw := v, umap := insertBits s1.umap 0 (v.extractLsb' 2 2) }.bracketCache true

/-- LDS and SLS (R311, R312). The operand is read before the first cache statement: a DESIGN CHOICE, for R311's FUNCTION writes that statement
before the load of the PSW and its pseudocode, which starts with the read, does not place it. It shows only in the cache enable of the state
that a failing read carries on CPU type 7 (log 39). -/
def loadStatus (o : Operand) (s : State) : Run State := do
  let v ← s.read (o.loc s)
  pure (s.loadPsw v).finish

/-- LDT (R315). -/
def loadTimer (o : Operand) (s : State) : Run State := do
  let v ← s.read (o.loc s)
  pure ({ s with timer := v } : State).finish

/-- LDL: all 16 bits of LEVEL (R321). -/
def loadLevel (o : Operand) (s : State) : Run State := do
  let v ← s.read (o.loc s)
  pure ({ s with level := v } : State).finish

/-- LBR (R319). -/
def loadBound (s : State) : Run State := do
  let v ← s.loadData (s.base - 1)
  pure ({ s with bound := v } : State).finish

/-- The words 0 to 13 of a process descriptor (R94, R318). -/
def State.descriptor (s : State) (cont : Word) : List Word :=
  [s.reg 0, s.reg 1, s.reg 2, s.reg 3, s.reg 4, s.reg 5, s.reg 6, s.reg 7,
    s.base, s.umap, s.prog, cont, s.timer, s.psw]

/-- The stores of a process save at a descriptor: words 0 to 13, then -2 LEVEL, then -1 BOUND where the level counter is 0
(R318, R330). -/
def State.saveProcess (s : State) (page : Byte) (a cont : Word) : Run State := do
  let s1 ← s.storeWords page a (s.descriptor cont)
  let s2 ← s1.store page (a - 2) s.level
  if counterZero s.level then s2.store page (a - 1) s.bound else pure s2

/-- SVP: the saved PSW is the one before the mask is set; the continuation is `pc + 1 + L4` (R318, D42). -/
def saveOwnProcess (c : BitVec 4) (s : State) : Run State := do
  let t ← s.saveProcess s.dataPage s.base (s.pc + 1 + zext c)
  pure (t.setMask 3).finish

/-- The word address and the page of a process descriptor, from an operand and its successor (R86, R322). -/
def descriptorAt (o : Operand) (s : State) : Run (Word × Byte) := do
  let l := o.loc s
  let d ← s.read l
  let p ← s.read l.succ
  pure (d, lowByte p)

/-- BOUND after LEVEL has been loaded from a descriptor: word -1 where the counter is 0, else -1 (R322). -/
def State.loadBoundFrom (s : State) (p : Byte) (d : Word) : Run State :=
  if counterZero s.level then do
    let b ← s.load p (d - 1)
    pure { s with bound := b }
  else pure { s with bound := 0xFFFF }

/-- The load of a process descriptor, statement by statement (R322). -/
def State.loadProcess (s : State) (p : Byte) (d : Word) : Run State := do
  let s := { s with umap := insertBits s.umap 0 p }.bracketCache false
  let v ← s.load p (d - 2)
  let s ← { s with level := v }.loadBoundFrom p d
  let s ← s.loadRegisters p d (regsUpTo 7)
  let v ← s.load p (d + 8)
  let s := { s with base := v }
  let v ← s.load p (d + 9)
  let s := { s with umap := v }
  let v ← s.load p (d + 10)
  let s := { s with prog := v }
  let v ← s.load p (d + 11)
  let s := { s with pc := v }
  let v ← s.load p (d + 12)
  let s := { s with timer := v }
  let v ← s.load p (d + 13)
  pure ({ s with psw := v }.bracketCache true)

/-- LDN: execution goes on at the loaded location (R322). -/
def loadUnlinked (o : Operand) (s : State) : Run State := do
  let (d, p) ← descriptorAt o s
  let t ← s.loadProcess p d
  pure t.clearModification

/-- LDP: the BASE and UMAP of the process left are then stored at words 14 and 15 of the new BASE, in the new data page (R323). -/
def loadLinked (o : Operand) (s : State) : Run State := do
  let (d, p) ← descriptorAt o s
  let s1 ← s.loadProcess p d
  let s2 ← s1.storeData (s1.base + 14) s.base
  let s3 ← s2.storeData (s2.base + 15) s.umap
  pure s3.clearModification

/-- The word `w` is to be executed at this same location, unmodified, in the standard set: the next step does so
(R324, log 19). -/
def State.execute (s : State) (w : Word) : State := { s.clearModification with instr := some w }

/-- XCU (R324). -/
def executeAt (a : Word) (s : State) : Run State := do
  let w ← s.loadData a
  pure (s.execute w)

/-- XCUI (R326). -/
def executeIndirect (a : Word) (s : State) : Run State := do
  let ptr ← s.loadData a
  let w ← s.loadData (s.base + ptr)
  pure (s.execute w)

/-- What a monitor call changes before it jumps: the link in register 7, the level, PSW bit 0 and BOUND (R325). -/
def State.enterMonitor (s : State) : State :=
  { s.setReg 7 s.link with level := s.level + 1, bound := 0xFFFF }.setPg false

/-- MON: to location 63, or through the word at location C8 of the program page now in force (R325, R95). -/
def monitorCall (k : BitVec 8) (s : State) : Run State := do
  let s1 := s.enterMonitor
  let t ← if zext k < 64 then pure (63 : Word) else s1.loadProg (zext k)
  pure (s1.jumpTo t)

/-- What a return from a monitor call restores: the level decremented, PSW bit 0 set at level 0, BOUND from BASE-1 when the level
counter is 0 (R327). -/
def State.leaveMonitor (s : State) : Run State := do
  let s1 := { s with level := s.level - 1 }
  let s2 := if s1.level = 0 then s1.setPg true else s1
  if counterZero s2.level then do
    let b ← s2.loadData (s2.base - 1)
    pure { s2 with bound := b }
  else pure s2

/-- RTM: the operand is the location itself (R327, D25). -/
def returnMonitor (t : Word) (s : State) : Run State := do
  let s1 ← s.leaveMonitor
  pure (s1.jumpTo t)

/-- RTMI: the operand word is read before LEVEL is changed (R328). -/
def returnMonitorIndirect (a : Word) (s : State) : Run State := do
  let w ← s.loadData a
  let s1 ← s.leaveMonitor
  pure (s1.jumpTo (w + s1.prog))

/-- CPU: the event NotifyVector is emitted (R329). -/
def notify (o : Operand) (s : State) : Run State := do
  let v ← s.read (o.loc s)
  pure (s.emit (.notifyVector v)).finish

/-- The address of the CPU's descriptor reference in page FF (R330, D39). -/
def State.nmiReference (s : State) : Word := 0xFFE0 + 2 * zext s.plat.cpuNumber

/-- NMI: the bus controlling device is commanded, the context is saved with word 16 SPM and word 17 cause 8, and the CPU awaits the
notification (R330, D43, log 20). -/
def nonMaskable (s : State) : Run State := do
  let s := (s.emit .issueNmi).clearModification
  let d ← s.load 0xFF s.nmiReference
  let p ← s.load 0xFF (s.nmiReference + 1)
  let s ← s.saveProcess (lowByte p) d (s.pc + 1)
  let s ← s.store (lowByte p) (d + 16) (zext s.spm)
  let s ← s.store (lowByte p) (d + 17) 8
  pure { s with awaitingNmi := true }

/-- TRP: an illegal instruction, internal interrupt with cause 1 (R331, R380, R381). -/
def trap (s : State) : Run State := raiseInternal 1 s.clearModification

/-- CAE and CAD; no operation on CPU type 8 (R332, R333). -/
def State.setCache (s : State) (b : Bool) : State := if s.plat.cpu = .type8 then s else { s with cacheOn := b }

/-- The number that TST puts in register 0 (R334). -/
def testCode : TstResult → Word
  | .noErrors => 0
  | .alsFailed => 1
  | .amsFailed => 2
  | .opregFailed => 3
  | .pswFailed => 4
  | .cacheFailed => 5

/-- TST: registers 1 to 3 and PSW bits 7:4 are free values (R334, U7, log 12). -/
def State.selfTest (s : State) : State :=
  let s1 := (((s.setReg 0 (testCode s.plat.tstResult)).setReg 1 (s.free 0)).setReg 2 (s.free 1)).setReg 3 (s.free 2)
  { s1 with psw := insertBits s1.psw 4 ((s.free 3).extractLsb' 0 4) }.drawn 4

/-- ALT: PSW bit 12 set; the modification is cleared on CPU type 6 only (R335). -/
def State.switchSet (s : State) : State :=
  (if s.plat.cpu = .type6 then (s.setAlt true).clearModification else s.setAlt true).advance 1

/-! ### The instructions -/

/-- MON C8 (R325). -/
def execMon (k : BitVec 8) (s : State) : Answer :=
  outcome (monitorCall k s)

/-- RTMI M B6 (R328). -/
def execRtmi (d : BitVec 6) (s : State) : Answer :=
  outcome (returnMonitorIndirect (s.base + zext d + s.mod) s)

/-- RTM M P6.X2 (R327). -/
def execRtm (x : BitVec 2) (d : BitVec 6) (s : State) : Answer :=
  outcome (returnMonitor (s.progAddress (s.indexed x d)) s)

/-- LDP R3 (R323). -/
def execLdpR (f2 : RegNum) (s : State) : Answer :=
  outcome (loadLinked (.r3 f2) s)

/-- LDP M B0.X3 (R323). -/
def execLdpM (f2 : RegNum) (s : State) : Answer :=
  outcome (loadLinked (.b0x3 f2) s)

/-- SSS R3 (R314). -/
def execSssR (f2 : RegNum) (s : State) : Answer :=
  outcome (saveValue s.psw (.r3 f2) s)

/-- SSS M B0.X3 (R314). -/
def execSssM (f2 : RegNum) (s : State) : Answer :=
  outcome (saveValue s.psw (.b0x3 f2) s)

/-- LDN R3 (R322). -/
def execLdnR (f2 : RegNum) (s : State) : Answer :=
  outcome (loadUnlinked (.r3 f2) s)

/-- LDN M B0.X3 (R322). -/
def execLdnM (f2 : RegNum) (s : State) : Answer :=
  outcome (loadUnlinked (.b0x3 f2) s)

/-- LDT R3 (R315). -/
def execLdtR (f2 : RegNum) (s : State) : Answer :=
  outcome (loadTimer (.r3 f2) s)

/-- LDT M B0.X3 (R315). -/
def execLdtM (f2 : RegNum) (s : State) : Answer :=
  outcome (loadTimer (.b0x3 f2) s)

/-- XCU X3 (R324). -/
def execXcu (f2 : RegNum) (s : State) : Answer :=
  outcome (executeAt (s.base + s.reg f2) s)

/-- XCUI M B0.X3 (R326). -/
def execXcui (f2 : RegNum) (s : State) : Answer :=
  outcome (executeIndirect (s.base + s.reg f2 + s.mod) s)

/-- SVT R3 (R316). -/
def execSvtR (f2 : RegNum) (s : State) : Answer :=
  outcome (saveValue s.timer (.r3 f2) s)

/-- SVT M B0.X3 (R316). -/
def execSvtM (f2 : RegNum) (s : State) : Answer :=
  outcome (saveValue s.timer (.b0x3 f2) s)

/-- SVS R3 (R313). -/
def execSvsR (f2 : RegNum) (s : State) : Answer :=
  outcome (saveValue s.psw (.r3 f2) s)

/-- SVS M B0.X3 (R313). -/
def execSvsM (f2 : RegNum) (s : State) : Answer :=
  outcome (saveValue s.psw (.b0x3 f2) s)

/-- LDS R3 (R311). -/
def execLdsR (f2 : RegNum) (s : State) : Answer :=
  outcome (loadStatus (.r3 f2) s)

/-- LDS M B0.X3 (R311). -/
def execLdsM (f2 : RegNum) (s : State) : Answer :=
  outcome (loadStatus (.b0x3 f2) s)

/-- SLS R3 (R312). -/
def execSlsR (f2 : RegNum) (s : State) : Answer :=
  outcome (loadStatus (.r3 f2) s)

/-- SLS M B0.X3 (R312). -/
def execSlsM (f2 : RegNum) (s : State) : Answer :=
  outcome (loadStatus (.b0x3 f2) s)

/-- SVL R3 (R320). -/
def execSvlR (f2 : RegNum) (s : State) : Answer :=
  outcome (saveValue s.level (.r3 f2) s)

/-- SVL M B0.X3 (R320). -/
def execSvlM (f2 : RegNum) (s : State) : Answer :=
  outcome (saveValue s.level (.b0x3 f2) s)

/-- LDL R3 (R321). -/
def execLdlR (f2 : RegNum) (s : State) : Answer :=
  outcome (loadLevel (.r3 f2) s)

/-- LDL M B0.X3 (R321). -/
def execLdlM (f2 : RegNum) (s : State) : Answer :=
  outcome (loadLevel (.b0x3 f2) s)

/-- TRP C4 (R331). -/
def execTrp (_c : BitVec 4) (s : State) : Answer :=
  outcome (trap s)

/-- SVP L4 (R318). -/
def execSvp (c : BitVec 4) (s : State) : Answer :=
  outcome (saveOwnProcess c s)

/-- CPU R3 (R329). -/
def execCpuR (f2 : RegNum) (s : State) : Answer :=
  outcome (notify (.r3 f2) s)

/-- CPU M B0.X3 (R329). -/
def execCpuM (f2 : RegNum) (s : State) : Answer :=
  outcome (notify (.b0x3 f2) s)

/-- LDM C4 (R317). -/
def execLdm (c : BitVec 4) (s : State) : Answer :=
  .next ((s.setMask (c.extractLsb' 0 2)).finish)

/-- ALT (R335). -/
def execAlt (s : State) : Answer :=
  .next (s.switchSet)

/-- LBR (R319). -/
def execLbr (s : State) : Answer :=
  outcome (loadBound s)

/-- NMI (R330). -/
def execNmi (s : State) : Answer :=
  outcome (nonMaskable s)

/-- CAE (R332). -/
def execCae (s : State) : Answer :=
  .next ((s.setCache true).finish)

/-- CAD (R333). -/
def execCad (s : State) : Answer :=
  .next ((s.setCache false).finish)

/-- TST (R334). -/
def execTst (s : State) : Answer :=
  .next (s.selfTest.finish)

end Sys2Proof.Machine
end

