-- ==== Sys2Proof/Machine/Dispatch.lean ====
section
/-! DEFINITION. The meaning of each instruction, one arm per constructor. -/

namespace Sys2Proof.Machine

/-- An instruction executed at the state whose location counter points at it (R34, R120). -/
def exec (i : Instr) (s : State) : Host.Outcome State Fault Refusal :=
  match i with
  | .sltpRC f1 c => Sys2Proof.Machine.execSltpRC f1 c s
  | .sltpXC f1 c => Sys2Proof.Machine.execSltpXC f1 c s
  | .sgepRC f1 c => Sys2Proof.Machine.execSgepRC f1 c s
  | .sgepXC f1 c => Sys2Proof.Machine.execSgepXC f1 c s
  | .slopRC f1 c => Sys2Proof.Machine.execSlopRC f1 c s
  | .slopXC f1 c => Sys2Proof.Machine.execSlopXC f1 c s
  | .shspRC f1 c => Sys2Proof.Machine.execShspRC f1 c s
  | .shspXC f1 c => Sys2Proof.Machine.execShspXC f1 c s
  | .sltRC f1 c => Sys2Proof.Machine.execSltRC f1 c s
  | .sltXC f1 c => Sys2Proof.Machine.execSltXC f1 c s
  | .sgeRC f1 c => Sys2Proof.Machine.execSgeRC f1 c s
  | .sgeXC f1 c => Sys2Proof.Machine.execSgeXC f1 c s
  | .sloRC f1 c => Sys2Proof.Machine.execSloRC f1 c s
  | .sloXC f1 c => Sys2Proof.Machine.execSloXC f1 c s
  | .shsRC f1 c => Sys2Proof.Machine.execShsRC f1 c s
  | .shsXC f1 c => Sys2Proof.Machine.execShsXC f1 c s
  | .addRB6 x d t => Sys2Proof.Machine.execAddRB6 x d t s
  | .movcCn4X f1 c => Sys2Proof.Machine.execMovcCn4X f1 c s
  | .rels f1 c => Sys2Proof.Machine.execRels f1 c s
  | .mmp f1 f2 => Sys2Proof.Machine.execMmp f1 f2 s
  | .jmpiB6 x d => Sys2Proof.Machine.execJmpiB6 x d s
  | .dec x d => Sys2Proof.Machine.execDec x d s
  | .modnB8 k => Sys2Proof.Machine.execModnB8 k s
  | .modnP8 k => Sys2Proof.Machine.execModnP8 k s
  | .inc x d => Sys2Proof.Machine.execInc x d s
  | .jpzi k => Sys2Proof.Machine.execJpzi k s
  | .movB6R x d t => Sys2Proof.Machine.execMovB6R x d t s
  | .mvp x d q => Sys2Proof.Machine.execMvp x d q s
  | .srlRC f1 c => Sys2Proof.Machine.execSrlRC f1 c s
  | .srllRC f1 c => Sys2Proof.Machine.execSrllRC f1 c s
  | .sraRC f1 c => Sys2Proof.Machine.execSraRC f1 c s
  | .clr x d => Sys2Proof.Machine.execClr x d s
  | .movcCn8R k t => Sys2Proof.Machine.execMovcCn8R k t s
  | .addB6R x d t => Sys2Proof.Machine.execAddB6R x d t s
  | .sozp x d => Sys2Proof.Machine.execSozp x d s
  | .sonp x d => Sys2Proof.Machine.execSonp x d s
  | .soz x d => Sys2Proof.Machine.execSoz x d s
  | .son x d => Sys2Proof.Machine.execSon x d s
  | .snepRCn f1 c => Sys2Proof.Machine.execSnepRCn f1 c s
  | .snepRC f1 c => Sys2Proof.Machine.execSnepRC f1 c s
  | .snepXCn f1 c => Sys2Proof.Machine.execSnepXCn f1 c s
  | .snepXC f1 c => Sys2Proof.Machine.execSnepXC f1 c s
  | .seqpRCn f1 c => Sys2Proof.Machine.execSeqpRCn f1 c s
  | .seqpRC f1 c => Sys2Proof.Machine.execSeqpRC f1 c s
  | .seqpXCn f1 c => Sys2Proof.Machine.execSeqpXCn f1 c s
  | .seqpXC f1 c => Sys2Proof.Machine.execSeqpXC f1 c s
  | .sneRCn f1 c => Sys2Proof.Machine.execSneRCn f1 c s
  | .sneRC f1 c => Sys2Proof.Machine.execSneRC f1 c s
  | .sneXCn f1 c => Sys2Proof.Machine.execSneXCn f1 c s
  | .sneXC f1 c => Sys2Proof.Machine.execSneXC f1 c s
  | .seqRCn f1 c => Sys2Proof.Machine.execSeqRCn f1 c s
  | .seqRC f1 c => Sys2Proof.Machine.execSeqRC f1 c s
  | .seqXCn f1 c => Sys2Proof.Machine.execSeqXCn f1 c s
  | .seqXC f1 c => Sys2Proof.Machine.execSeqXC f1 c s
  | .movcC8R k t => Sys2Proof.Machine.execMovcC8R k t s
  | .movcC4X f1 c => Sys2Proof.Machine.execMovcC4X f1 c s
  | .ress f1 c => Sys2Proof.Machine.execRess f1 c s
  | .setsR f1 b f2 => Sys2Proof.Machine.execSetsR f1 b f2 s
  | .setsX f1 b f2 => Sys2Proof.Machine.execSetsX f1 b f2 s
  | .modB6 x d => Sys2Proof.Machine.execModB6 x d s
  | .modnB6 x d => Sys2Proof.Machine.execModnB6 x d s
  | .mod8 k => Sys2Proof.Machine.execMod8 k s
  | .jmpLn10 k q => Sys2Proof.Machine.execJmpLn10 k q s
  | .jmpLn8 k => Sys2Proof.Machine.execJmpLn8 k s
  | .jmpS2Ln8 k l => Sys2Proof.Machine.execJmpS2Ln8 k l s
  | .movlLoad x d q => Sys2Proof.Machine.execMovlLoad x d q s
  | .srlXC f1 c => Sys2Proof.Machine.execSrlXC f1 c s
  | .srllXC f1 c => Sys2Proof.Machine.execSrllXC f1 c s
  | .sraXC f1 c => Sys2Proof.Machine.execSraXC f1 c s
  | .sxt f1 c => Sys2Proof.Machine.execSxt f1 c s
  | .movB8R k t => Sys2Proof.Machine.execMovB8R k t s
  | .movRB8 k t => Sys2Proof.Machine.execMovRB8 k t s
  | .movbLoad x d q => Sys2Proof.Machine.execMovbLoad x d q s
  | .movRB6 x d t => Sys2Proof.Machine.execMovRB6 x d t s
  | .clrsR f1 b f2 => Sys2Proof.Machine.execClrsR f1 b f2 s
  | .clrsX f1 b f2 => Sys2Proof.Machine.execClrsX f1 b f2 s
  | .addRR a f1 b f2 => Sys2Proof.Machine.execAddRR a f1 b f2 s
  | .subRR a f1 b f2 => Sys2Proof.Machine.execSubRR a f1 b f2 s
  | .andRR a f1 b f2 => Sys2Proof.Machine.execAndRR a f1 b f2 s
  | .iorRR a f1 b f2 => Sys2Proof.Machine.execIorRR a f1 b f2 s
  | .incdRR f1 f2 => Sys2Proof.Machine.execIncdRR f1 f2 s
  | .decdRR f1 f2 => Sys2Proof.Machine.execDecdRR f1 f2 s
  | .incdXM f1 f2 => Sys2Proof.Machine.execIncdXM f1 f2 s
  | .decdXM f1 f2 => Sys2Proof.Machine.execDecdXM f1 f2 s
  | .movbStore x d q => Sys2Proof.Machine.execMovbStore x d q s
  | .modB8 k => Sys2Proof.Machine.execModB8 k s
  | .modP8 k => Sys2Proof.Machine.execModP8 k s
  | .sioR f1 f2 => Sys2Proof.Machine.execSioR f1 f2 s
  | .cioR f1 f2 => Sys2Proof.Machine.execCioR f1 f2 s
  | .rioR f1 f2 => Sys2Proof.Machine.execRioR f1 f2 s
  | .wioR f1 f2 => Sys2Proof.Machine.execWioR f1 f2 s
  | .movP8R k t => Sys2Proof.Machine.execMovP8R k t s
  | .sllRC f1 c => Sys2Proof.Machine.execSllRC f1 c s
  | .slllRC f1 c => Sys2Proof.Machine.execSlllRC f1 c s
  | .slcRC f1 c => Sys2Proof.Machine.execSlcRC f1 c s
  | .setsRC f1 c => Sys2Proof.Machine.execSetsRC f1 c s
  | .modcCn8 k => Sys2Proof.Machine.execModcCn8 k s
  | .mod4Cn8 k => Sys2Proof.Machine.execMod4Cn8 k s
  | .mon k => Sys2Proof.Machine.execMon k s
  | .rpz x d => Sys2Proof.Machine.execRpz x d s
  | .addcCn8R k t => Sys2Proof.Machine.execAddcCn8R k t s
  | .sbnpRC f1 c => Sys2Proof.Machine.execSbnpRC f1 c s
  | .jonRLn4 f1 c => Sys2Proof.Machine.execJonRLn4 f1 c s
  | .sbnpXC f1 c => Sys2Proof.Machine.execSbnpXC f1 c s
  | .jonXLn4 f1 c => Sys2Proof.Machine.execJonXLn4 f1 c s
  | .sbzpRC f1 c => Sys2Proof.Machine.execSbzpRC f1 c s
  | .jozRLn4 f1 c => Sys2Proof.Machine.execJozRLn4 f1 c s
  | .sbzpXC f1 c => Sys2Proof.Machine.execSbzpXC f1 c s
  | .jozXLn4 f1 c => Sys2Proof.Machine.execJozXLn4 f1 c s
  | .sbnRC f1 c => Sys2Proof.Machine.execSbnRC f1 c s
  | .jonRL4 f1 c => Sys2Proof.Machine.execJonRL4 f1 c s
  | .sbnXC f1 c => Sys2Proof.Machine.execSbnXC f1 c s
  | .jonXL4 f1 c => Sys2Proof.Machine.execJonXL4 f1 c s
  | .sbzRC f1 c => Sys2Proof.Machine.execSbzRC f1 c s
  | .jozRL4 f1 c => Sys2Proof.Machine.execJozRL4 f1 c s
  | .sbzXC f1 c => Sys2Proof.Machine.execSbzXC f1 c s
  | .jozXL4 f1 c => Sys2Proof.Machine.execJozXL4 f1 c s
  | .sltpRR a f1 b f2 => Sys2Proof.Machine.execSltpRR a f1 b f2 s
  | .slopRR a f1 b f2 => Sys2Proof.Machine.execSlopRR a f1 b f2 s
  | .sgepRR a f1 b f2 => Sys2Proof.Machine.execSgepRR a f1 b f2 s
  | .shspRR a f1 b f2 => Sys2Proof.Machine.execShspRR a f1 b f2 s
  | .snepRR a f1 b f2 => Sys2Proof.Machine.execSnepRR a f1 b f2 s
  | .stcRM f1 f2 => Sys2Proof.Machine.execStcRM f1 f2 s
  | .unsRM f1 f2 => Sys2Proof.Machine.execUnsRM f1 f2 s
  | .seqpRR a f1 b f2 => Sys2Proof.Machine.execSeqpRR a f1 b f2 s
  | .movR a f1 f2 => Sys2Proof.Machine.execMovR a f1 f2 s
  | .jmpP6 x d => Sys2Proof.Machine.execJmpP6 x d s
  | .sob k t => Sys2Proof.Machine.execSob k t s
  | .addcC8R k t => Sys2Proof.Machine.execAddcC8R k t s
  | .movlStore x d q => Sys2Proof.Machine.execMovlStore x d q s
  | .adduRR a f1 b f2 => Sys2Proof.Machine.execAdduRR a f1 b f2 s
  | .subuRR a f1 b f2 => Sys2Proof.Machine.execSubuRR a f1 b f2 s
  | .sioX f1 f2 => Sys2Proof.Machine.execSioX f1 f2 s
  | .cioX f1 f2 => Sys2Proof.Machine.execCioX f1 f2 s
  | .rioX f1 f2 => Sys2Proof.Machine.execRioX f1 f2 s
  | .wioX f1 f2 => Sys2Proof.Machine.execWioX f1 f2 s
  | .jmpL10 k q => Sys2Proof.Machine.execJmpL10 k q s
  | .jmpL8 k => Sys2Proof.Machine.execJmpL8 k s
  | .jmpS2L8 k l => Sys2Proof.Machine.execJmpS2L8 k l s
  | .sllXC f1 c => Sys2Proof.Machine.execSllXC f1 c s
  | .slllXC f1 c => Sys2Proof.Machine.execSlllXC f1 c s
  | .slcXC f1 c => Sys2Proof.Machine.execSlcXC f1 c s
  | .setsXC f1 c => Sys2Proof.Machine.execSetsXC f1 c s
  | .rtmi d => Sys2Proof.Machine.execRtmi d s
  | .modcC8 k => Sys2Proof.Machine.execModcC8 k s
  | .mod4C8 k => Sys2Proof.Machine.execMod4C8 k s
  | .rtm x d => Sys2Proof.Machine.execRtm x d s
  | .jmpiB8 k => Sys2Proof.Machine.execJmpiB8 k s
  | .xor a f1 f2 => Sys2Proof.Machine.execXor a f1 f2 s
  | .putX f1 f2 => Sys2Proof.Machine.execPutX f1 f2 s
  | .movm f1 f2 => Sys2Proof.Machine.execMovm f1 f2 s
  | .putR f1 f2 => Sys2Proof.Machine.execPutR f1 f2 s
  | .mul a f1 f2 => Sys2Proof.Machine.execMul a f1 f2 s
  | .div a f1 f2 => Sys2Proof.Machine.execDiv a f1 f2 s
  | .xtrRC f1 c => Sys2Proof.Machine.execXtrRC f1 c s
  | .xtrXC f1 c => Sys2Proof.Machine.execXtrXC f1 c s
  | .xchR f1 b f2 => Sys2Proof.Machine.execXchR f1 b f2 s
  | .xchX f1 b f2 => Sys2Proof.Machine.execXchX f1 b f2 s
  | .sltRR a f1 b f2 => Sys2Proof.Machine.execSltRR a f1 b f2 s
  | .sloRR a f1 b f2 => Sys2Proof.Machine.execSloRR a f1 b f2 s
  | .sgeRR a f1 b f2 => Sys2Proof.Machine.execSgeRR a f1 b f2 s
  | .shsRR a f1 b f2 => Sys2Proof.Machine.execShsRR a f1 b f2 s
  | .sneRR a f1 b f2 => Sys2Proof.Machine.execSneRR a f1 b f2 s
  | .stcXM f1 f2 => Sys2Proof.Machine.execStcXM f1 f2 s
  | .unsXM f1 f2 => Sys2Proof.Machine.execUnsXM f1 f2 s
  | .seqRR a f1 b f2 => Sys2Proof.Machine.execSeqRR a f1 b f2 s
  | .movX a f1 f2 => Sys2Proof.Machine.execMovX a f1 f2 s
  | .jmpiP8 k => Sys2Proof.Machine.execJmpiP8 k s
  | .jmpiS2P8 k l => Sys2Proof.Machine.execJmpiS2P8 k l s
  | .ldpR f2 => Sys2Proof.Machine.execLdpR f2 s
  | .ldpM f2 => Sys2Proof.Machine.execLdpM f2 s
  | .sssR f2 => Sys2Proof.Machine.execSssR f2 s
  | .sssM f2 => Sys2Proof.Machine.execSssM f2 s
  | .dicpR f2 => Sys2Proof.Machine.execDicpR f2 s
  | .dicpM f2 => Sys2Proof.Machine.execDicpM f2 s
  | .ddcpR f2 => Sys2Proof.Machine.execDdcpR f2 s
  | .ddcpM f2 => Sys2Proof.Machine.execDdcpM f2 s
  | .ldnR f2 => Sys2Proof.Machine.execLdnR f2 s
  | .ldnM f2 => Sys2Proof.Machine.execLdnM f2 s
  | .ldtR f2 => Sys2Proof.Machine.execLdtR f2 s
  | .ldtM f2 => Sys2Proof.Machine.execLdtM f2 s
  | .swpR f2 => Sys2Proof.Machine.execSwpR f2 s
  | .swpM f2 => Sys2Proof.Machine.execSwpM f2 s
  | .xcu f2 => Sys2Proof.Machine.execXcu f2 s
  | .xcui f2 => Sys2Proof.Machine.execXcui f2 s
  | .invR f2 => Sys2Proof.Machine.execInvR f2 s
  | .invM f2 => Sys2Proof.Machine.execInvM f2 s
  | .svtR f2 => Sys2Proof.Machine.execSvtR f2 s
  | .svtM f2 => Sys2Proof.Machine.execSvtM f2 s
  | .svsR f2 => Sys2Proof.Machine.execSvsR f2 s
  | .svsM f2 => Sys2Proof.Machine.execSvsM f2 s
  | .ldsR f2 => Sys2Proof.Machine.execLdsR f2 s
  | .ldsM f2 => Sys2Proof.Machine.execLdsM f2 s
  | .negR f2 => Sys2Proof.Machine.execNegR f2 s
  | .negM f2 => Sys2Proof.Machine.execNegM f2 s
  | .slsR f2 => Sys2Proof.Machine.execSlsR f2 s
  | .slsM f2 => Sys2Proof.Machine.execSlsM f2 s
  | .modnR f2 => Sys2Proof.Machine.execModnR f2 s
  | .modnX f2 => Sys2Proof.Machine.execModnX f2 s
  | .svlR f2 => Sys2Proof.Machine.execSvlR f2 s
  | .svlM f2 => Sys2Proof.Machine.execSvlM f2 s
  | .modR f2 => Sys2Proof.Machine.execModR f2 s
  | .modX f2 => Sys2Proof.Machine.execModX f2 s
  | .ldlR f2 => Sys2Proof.Machine.execLdlR f2 s
  | .ldlM f2 => Sys2Proof.Machine.execLdlM f2 s
  | .trp c => Sys2Proof.Machine.execTrp c s
  | .svp c => Sys2Proof.Machine.execSvp c s
  | .cpuR f2 => Sys2Proof.Machine.execCpuR f2 s
  | .cpuM f2 => Sys2Proof.Machine.execCpuM f2 s
  | .jvnLn4 c => Sys2Proof.Machine.execJvnLn4 c s
  | .unsC4 c => Sys2Proof.Machine.execUnsC4 c s
  | .ldm c => Sys2Proof.Machine.execLdm c s
  | .stcC4 c => Sys2Proof.Machine.execStcC4 c s
  | .jvnL4 c => Sys2Proof.Machine.execJvnL4 c s
  | .aamow f1 f2 t => Sys2Proof.Machine.execAamow f1 f2 t s
  | .lamow f1 f2 t => Sys2Proof.Machine.execLamow f1 f2 t s
  | .almow f1 f2 t => Sys2Proof.Machine.execAlmow f1 f2 t s
  | .aamob f1 f2 t => Sys2Proof.Machine.execAamob f1 f2 t s
  | .lamob f1 f2 t => Sys2Proof.Machine.execLamob f1 f2 t s
  | .almob f1 f2 t => Sys2Proof.Machine.execAlmob f1 f2 t s
  | .amowStore f1 f2 => Sys2Proof.Machine.execAmowStore f1 f2 s
  | .amowLoad f1 f2 => Sys2Proof.Machine.execAmowLoad f1 f2 s
  | .amobStore f1 f2 => Sys2Proof.Machine.execAmobStore f1 f2 s
  | .amobLoad f1 f2 => Sys2Proof.Machine.execAmobLoad f1 f2 s
  | .aress f1 c => Sys2Proof.Machine.execAress f1 c s
  | .arels f1 c => Sys2Proof.Machine.execArels f1 c s
  | .drdR f1 f2 => Sys2Proof.Machine.execDrdR f1 f2 s
  | .drdX f1 f2 => Sys2Proof.Machine.execDrdX f1 f2 s
  | .dwrR f1 f2 => Sys2Proof.Machine.execDwrR f1 f2 s
  | .dwrX f1 f2 => Sys2Proof.Machine.execDwrX f1 f2 s
  | .mrdR f1 f2 => Sys2Proof.Machine.execMrdR f1 f2 s
  | .mrdX f1 f2 => Sys2Proof.Machine.execMrdX f1 f2 s
  | .mwrR f1 f2 => Sys2Proof.Machine.execMwrR f1 f2 s
  | .mwrX f1 f2 => Sys2Proof.Machine.execMwrX f1 f2 s
  | .rspR f1 => Sys2Proof.Machine.execRspR f1 s
  | .rspX f1 => Sys2Proof.Machine.execRspX f1 s
  | .wspR f1 => Sys2Proof.Machine.execWspR f1 s
  | .wspX f1 => Sys2Proof.Machine.execWspX f1 s
  | .arsc f1 f2 => Sys2Proof.Machine.execArsc f1 f2 s
  | .ared f1 f2 => Sys2Proof.Machine.execAred f1 f2 s
  | .alt => Sys2Proof.Machine.execAlt s
  | .lbr => Sys2Proof.Machine.execLbr s
  | .nmi => Sys2Proof.Machine.execNmi s
  | .cae => Sys2Proof.Machine.execCae s
  | .cad => Sys2Proof.Machine.execCad s
  | .tst => Sys2Proof.Machine.execTst s

end Sys2Proof.Machine
end

