-- ==== Sys2Proof/Machine/Availability.lean ====
section
/-! DEFINITION. Which CPU types have which instruction: the last column of the opcode maps (R10, R147 to R151, D1). -/

namespace Sys2Proof

/-- The lists of CPU types that the opcode maps use. -/
inductive Availability where
  | all | from6 | from3 | from4 | not5 | types578 | from7 | only7 | only8
  deriving DecidableEq, Repr

/-- A CPU type's number, 1 to 8. -/
def CpuType.number : CpuType → Nat
  | .type1 => 1 | .type2 => 2 | .type3 => 3 | .type4 => 4 | .type5 => 5 | .type6 => 6 | .type7 => 7 | .type8 => 8

/-- Whether a list of CPU types holds a type. -/
def Availability.holds (v : Availability) (cpu : CpuType) : Bool :=
  match v with
  | .all => true
  | .from6 => decide (6 ≤ cpu.number)
  | .from3 => decide (3 ≤ cpu.number)
  | .from4 => decide (4 ≤ cpu.number)
  | .not5 => decide (cpu.number ≠ 5)
  | .types578 => decide (cpu.number = 5 ∨ 7 ≤ cpu.number)
  | .from7 => decide (7 ≤ cpu.number)
  | .only7 => decide (cpu.number = 7)
  | .only8 => decide (cpu.number = 8)

/-- The CPU types of each instruction's row. -/
def Instr.availability : Instr → Availability
  | .sltpRC _ _ => .all
  | .sltpXC _ _ => .all
  | .sgepRC _ _ => .all
  | .sgepXC _ _ => .all
  | .slopRC _ _ => .all
  | .slopXC _ _ => .all
  | .shspRC _ _ => .all
  | .shspXC _ _ => .all
  | .sltRC _ _ => .all
  | .sltXC _ _ => .all
  | .sgeRC _ _ => .all
  | .sgeXC _ _ => .all
  | .sloRC _ _ => .all
  | .sloXC _ _ => .all
  | .shsRC _ _ => .all
  | .shsXC _ _ => .all
  | .addRB6 _ _ _ => .all
  | .movcCn4X _ _ => .all
  | .rels _ _ => .all
  | .mmp _ _ => .from6
  | .jmpiB6 _ _ => .all
  | .dec _ _ => .all
  | .modnB8 _ => .all
  | .modnP8 _ => .all
  | .inc _ _ => .all
  | .jpzi _ => .from6
  | .movB6R _ _ _ => .all
  | .mvp _ _ _ => .all
  | .srlRC _ _ => .all
  | .srllRC _ _ => .all
  | .sraRC _ _ => .all
  | .clr _ _ => .all
  | .movcCn8R _ _ => .all
  | .addB6R _ _ _ => .all
  | .sozp _ _ => .all
  | .sonp _ _ => .all
  | .soz _ _ => .all
  | .son _ _ => .all
  | .snepRCn _ _ => .all
  | .snepRC _ _ => .all
  | .snepXCn _ _ => .all
  | .snepXC _ _ => .all
  | .seqpRCn _ _ => .all
  | .seqpRC _ _ => .all
  | .seqpXCn _ _ => .all
  | .seqpXC _ _ => .all
  | .sneRCn _ _ => .all
  | .sneRC _ _ => .all
  | .sneXCn _ _ => .all
  | .sneXC _ _ => .all
  | .seqRCn _ _ => .all
  | .seqRC _ _ => .all
  | .seqXCn _ _ => .all
  | .seqXC _ _ => .all
  | .movcC8R _ _ => .all
  | .movcC4X _ _ => .all
  | .ress _ _ => .all
  | .setsR _ _ _ => .all
  | .setsX _ _ _ => .all
  | .modB6 _ _ => .all
  | .modnB6 _ _ => .all
  | .mod8 _ => .all
  | .jmpLn10 _ _ => .all
  | .jmpLn8 _ => .all
  | .jmpS2Ln8 _ _ => .all
  | .movlLoad _ _ _ => .all
  | .srlXC _ _ => .all
  | .srllXC _ _ => .all
  | .sraXC _ _ => .all
  | .sxt _ _ => .all
  | .movB8R _ _ => .all
  | .movRB8 _ _ => .all
  | .movbLoad _ _ _ => .all
  | .movRB6 _ _ _ => .all
  | .clrsR _ _ _ => .all
  | .clrsX _ _ _ => .all
  | .addRR _ _ _ _ => .all
  | .subRR _ _ _ _ => .all
  | .andRR _ _ _ _ => .all
  | .iorRR _ _ _ _ => .all
  | .incdRR _ _ => .all
  | .decdRR _ _ => .all
  | .incdXM _ _ => .all
  | .decdXM _ _ => .all
  | .movbStore _ _ _ => .all
  | .modB8 _ => .all
  | .modP8 _ => .all
  | .sioR _ _ => .all
  | .cioR _ _ => .all
  | .rioR _ _ => .all
  | .wioR _ _ => .all
  | .movP8R _ _ => .all
  | .sllRC _ _ => .all
  | .slllRC _ _ => .all
  | .slcRC _ _ => .all
  | .setsRC _ _ => .all
  | .modcCn8 _ => .all
  | .mod4Cn8 _ => .all
  | .mon _ => .from6
  | .rpz _ _ => .from6
  | .addcCn8R _ _ => .all
  | .sbnpRC _ _ => .all
  | .jonRLn4 _ _ => .all
  | .sbnpXC _ _ => .all
  | .jonXLn4 _ _ => .all
  | .sbzpRC _ _ => .all
  | .jozRLn4 _ _ => .all
  | .sbzpXC _ _ => .all
  | .jozXLn4 _ _ => .all
  | .sbnRC _ _ => .all
  | .jonRL4 _ _ => .all
  | .sbnXC _ _ => .all
  | .jonXL4 _ _ => .all
  | .sbzRC _ _ => .all
  | .jozRL4 _ _ => .all
  | .sbzXC _ _ => .all
  | .jozXL4 _ _ => .all
  | .sltpRR _ _ _ _ => .all
  | .slopRR _ _ _ _ => .all
  | .sgepRR _ _ _ _ => .all
  | .shspRR _ _ _ _ => .all
  | .snepRR _ _ _ _ => .all
  | .stcRM _ _ => .all
  | .unsRM _ _ => .all
  | .seqpRR _ _ _ _ => .all
  | .movR _ _ _ => .all
  | .jmpP6 _ _ => .all
  | .sob _ _ => .all
  | .addcC8R _ _ => .all
  | .movlStore _ _ _ => .all
  | .adduRR _ _ _ _ => .all
  | .subuRR _ _ _ _ => .all
  | .sioX _ _ => .from7
  | .cioX _ _ => .from7
  | .rioX _ _ => .all
  | .wioX _ _ => .all
  | .jmpL10 _ _ => .all
  | .jmpL8 _ => .all
  | .jmpS2L8 _ _ => .all
  | .sllXC _ _ => .all
  | .slllXC _ _ => .all
  | .slcXC _ _ => .all
  | .setsXC _ _ => .all
  | .rtmi _ => .from6
  | .modcC8 _ => .all
  | .mod4C8 _ => .all
  | .rtm _ _ => .from6
  | .jmpiB8 _ => .all
  | .xor _ _ _ => .all
  | .putX _ _ => .all
  | .movm _ _ => .all
  | .putR _ _ => .all
  | .mul _ _ _ => .all
  | .div _ _ _ => .all
  | .xtrRC _ _ => .all
  | .xtrXC _ _ => .all
  | .xchR _ _ _ => .all
  | .xchX _ _ _ => .all
  | .sltRR _ _ _ _ => .all
  | .sloRR _ _ _ _ => .all
  | .sgeRR _ _ _ _ => .all
  | .shsRR _ _ _ _ => .all
  | .sneRR _ _ _ _ => .all
  | .stcXM _ _ => .all
  | .unsXM _ _ => .all
  | .seqRR _ _ _ _ => .all
  | .movX _ _ _ => .all
  | .jmpiP8 _ => .all
  | .jmpiS2P8 _ _ => .all
  | .ldpR _ => .not5
  | .ldpM _ => .not5
  | .sssR _ => .from6
  | .sssM _ => .from6
  | .dicpR _ => .all
  | .dicpM _ => .all
  | .ddcpR _ => .all
  | .ddcpM _ => .all
  | .ldnR _ => .not5
  | .ldnM _ => .not5
  | .ldtR _ => .all
  | .ldtM _ => .all
  | .swpR _ => .all
  | .swpM _ => .all
  | .xcu _ => .all
  | .xcui _ => .all
  | .invR _ => .all
  | .invM _ => .all
  | .svtR _ => .all
  | .svtM _ => .all
  | .svsR _ => .all
  | .svsM _ => .all
  | .ldsR _ => .all
  | .ldsM _ => .all
  | .negR _ => .all
  | .negM _ => .all
  | .slsR _ => .from6
  | .slsM _ => .from6
  | .modnR _ => .all
  | .modnX _ => .all
  | .svlR _ => .from6
  | .svlM _ => .from6
  | .modR _ => .all
  | .modX _ => .all
  | .ldlR _ => .from6
  | .ldlM _ => .from6
  | .trp _ => .all
  | .svp _ => .not5
  | .cpuR _ => .types578
  | .cpuM _ => .types578
  | .jvnLn4 _ => .all
  | .unsC4 _ => .all
  | .ldm _ => .all
  | .stcC4 _ => .all
  | .jvnL4 _ => .all
  | .aamow _ _ _ => .from7
  | .lamow _ _ _ => .from7
  | .almow _ _ _ => .from7
  | .aamob _ _ _ => .from7
  | .lamob _ _ _ => .from7
  | .almob _ _ _ => .from7
  | .amowStore _ _ => .from7
  | .amowLoad _ _ => .from7
  | .amobStore _ _ => .from7
  | .amobLoad _ _ => .from7
  | .aress _ _ => .from7
  | .arels _ _ => .from7
  | .drdR _ _ => .from7
  | .drdX _ _ => .from7
  | .dwrR _ _ => .from7
  | .dwrX _ _ => .from7
  | .mrdR _ _ => .only7
  | .mrdX _ _ => .only7
  | .mwrR _ _ => .only7
  | .mwrX _ _ => .only7
  | .rspR _ => .from7
  | .rspX _ => .from7
  | .wspR _ => .from7
  | .wspX _ => .from7
  | .arsc _ _ => .only8
  | .ared _ _ => .only8
  | .alt => .from3
  | .lbr => .from6
  | .nmi => .only8
  | .cae => .from4
  | .cad => .from4
  | .tst => .from4

/-- The instruction exists on a CPU type (R10, D1). -/
def Instr.existsOn (i : Instr) (cpu : CpuType) : Bool := i.availability.holds cpu

/-- A word that stands for the instruction is not unassigned on a CPU type. MRD and MWR, which only type 7 has, are decoded on
type 8 too, where they raise InternalInterrupt(1) (R153, R367, R381). -/
def Instr.decodesOn (i : Instr) (cpu : CpuType) : Bool :=
  i.existsOn cpu || (decide (i.availability = .only7) && decide (cpu = .type8))

/-- The instruction is one of the alternative set, decoded when PSW bit 12 is 1 (R150, R151). -/
def Instr.isAlternative : Instr → Bool
  | .sltpRC _ _ => false
  | .sltpXC _ _ => false
  | .sgepRC _ _ => false
  | .sgepXC _ _ => false
  | .slopRC _ _ => false
  | .slopXC _ _ => false
  | .shspRC _ _ => false
  | .shspXC _ _ => false
  | .sltRC _ _ => false
  | .sltXC _ _ => false
  | .sgeRC _ _ => false
  | .sgeXC _ _ => false
  | .sloRC _ _ => false
  | .sloXC _ _ => false
  | .shsRC _ _ => false
  | .shsXC _ _ => false
  | .addRB6 _ _ _ => false
  | .movcCn4X _ _ => false
  | .rels _ _ => false
  | .mmp _ _ => false
  | .jmpiB6 _ _ => false
  | .dec _ _ => false
  | .modnB8 _ => false
  | .modnP8 _ => false
  | .inc _ _ => false
  | .jpzi _ => false
  | .movB6R _ _ _ => false
  | .mvp _ _ _ => false
  | .srlRC _ _ => false
  | .srllRC _ _ => false
  | .sraRC _ _ => false
  | .clr _ _ => false
  | .movcCn8R _ _ => false
  | .addB6R _ _ _ => false
  | .sozp _ _ => false
  | .sonp _ _ => false
  | .soz _ _ => false
  | .son _ _ => false
  | .snepRCn _ _ => false
  | .snepRC _ _ => false
  | .snepXCn _ _ => false
  | .snepXC _ _ => false
  | .seqpRCn _ _ => false
  | .seqpRC _ _ => false
  | .seqpXCn _ _ => false
  | .seqpXC _ _ => false
  | .sneRCn _ _ => false
  | .sneRC _ _ => false
  | .sneXCn _ _ => false
  | .sneXC _ _ => false
  | .seqRCn _ _ => false
  | .seqRC _ _ => false
  | .seqXCn _ _ => false
  | .seqXC _ _ => false
  | .movcC8R _ _ => false
  | .movcC4X _ _ => false
  | .ress _ _ => false
  | .setsR _ _ _ => false
  | .setsX _ _ _ => false
  | .modB6 _ _ => false
  | .modnB6 _ _ => false
  | .mod8 _ => false
  | .jmpLn10 _ _ => false
  | .jmpLn8 _ => false
  | .jmpS2Ln8 _ _ => false
  | .movlLoad _ _ _ => false
  | .srlXC _ _ => false
  | .srllXC _ _ => false
  | .sraXC _ _ => false
  | .sxt _ _ => false
  | .movB8R _ _ => false
  | .movRB8 _ _ => false
  | .movbLoad _ _ _ => false
  | .movRB6 _ _ _ => false
  | .clrsR _ _ _ => false
  | .clrsX _ _ _ => false
  | .addRR _ _ _ _ => false
  | .subRR _ _ _ _ => false
  | .andRR _ _ _ _ => false
  | .iorRR _ _ _ _ => false
  | .incdRR _ _ => false
  | .decdRR _ _ => false
  | .incdXM _ _ => false
  | .decdXM _ _ => false
  | .movbStore _ _ _ => false
  | .modB8 _ => false
  | .modP8 _ => false
  | .sioR _ _ => false
  | .cioR _ _ => false
  | .rioR _ _ => false
  | .wioR _ _ => false
  | .movP8R _ _ => false
  | .sllRC _ _ => false
  | .slllRC _ _ => false
  | .slcRC _ _ => false
  | .setsRC _ _ => false
  | .modcCn8 _ => false
  | .mod4Cn8 _ => false
  | .mon _ => false
  | .rpz _ _ => false
  | .addcCn8R _ _ => false
  | .sbnpRC _ _ => false
  | .jonRLn4 _ _ => false
  | .sbnpXC _ _ => false
  | .jonXLn4 _ _ => false
  | .sbzpRC _ _ => false
  | .jozRLn4 _ _ => false
  | .sbzpXC _ _ => false
  | .jozXLn4 _ _ => false
  | .sbnRC _ _ => false
  | .jonRL4 _ _ => false
  | .sbnXC _ _ => false
  | .jonXL4 _ _ => false
  | .sbzRC _ _ => false
  | .jozRL4 _ _ => false
  | .sbzXC _ _ => false
  | .jozXL4 _ _ => false
  | .sltpRR _ _ _ _ => false
  | .slopRR _ _ _ _ => false
  | .sgepRR _ _ _ _ => false
  | .shspRR _ _ _ _ => false
  | .snepRR _ _ _ _ => false
  | .stcRM _ _ => false
  | .unsRM _ _ => false
  | .seqpRR _ _ _ _ => false
  | .movR _ _ _ => false
  | .jmpP6 _ _ => false
  | .sob _ _ => false
  | .addcC8R _ _ => false
  | .movlStore _ _ _ => false
  | .adduRR _ _ _ _ => false
  | .subuRR _ _ _ _ => false
  | .sioX _ _ => false
  | .cioX _ _ => false
  | .rioX _ _ => false
  | .wioX _ _ => false
  | .jmpL10 _ _ => false
  | .jmpL8 _ => false
  | .jmpS2L8 _ _ => false
  | .sllXC _ _ => false
  | .slllXC _ _ => false
  | .slcXC _ _ => false
  | .setsXC _ _ => false
  | .rtmi _ => false
  | .modcC8 _ => false
  | .mod4C8 _ => false
  | .rtm _ _ => false
  | .jmpiB8 _ => false
  | .xor _ _ _ => false
  | .putX _ _ => false
  | .movm _ _ => false
  | .putR _ _ => false
  | .mul _ _ _ => false
  | .div _ _ _ => false
  | .xtrRC _ _ => false
  | .xtrXC _ _ => false
  | .xchR _ _ _ => false
  | .xchX _ _ _ => false
  | .sltRR _ _ _ _ => false
  | .sloRR _ _ _ _ => false
  | .sgeRR _ _ _ _ => false
  | .shsRR _ _ _ _ => false
  | .sneRR _ _ _ _ => false
  | .stcXM _ _ => false
  | .unsXM _ _ => false
  | .seqRR _ _ _ _ => false
  | .movX _ _ _ => false
  | .jmpiP8 _ => false
  | .jmpiS2P8 _ _ => false
  | .ldpR _ => false
  | .ldpM _ => false
  | .sssR _ => false
  | .sssM _ => false
  | .dicpR _ => false
  | .dicpM _ => false
  | .ddcpR _ => false
  | .ddcpM _ => false
  | .ldnR _ => false
  | .ldnM _ => false
  | .ldtR _ => false
  | .ldtM _ => false
  | .swpR _ => false
  | .swpM _ => false
  | .xcu _ => false
  | .xcui _ => false
  | .invR _ => false
  | .invM _ => false
  | .svtR _ => false
  | .svtM _ => false
  | .svsR _ => false
  | .svsM _ => false
  | .ldsR _ => false
  | .ldsM _ => false
  | .negR _ => false
  | .negM _ => false
  | .slsR _ => false
  | .slsM _ => false
  | .modnR _ => false
  | .modnX _ => false
  | .svlR _ => false
  | .svlM _ => false
  | .modR _ => false
  | .modX _ => false
  | .ldlR _ => false
  | .ldlM _ => false
  | .trp _ => false
  | .svp _ => false
  | .cpuR _ => false
  | .cpuM _ => false
  | .jvnLn4 _ => false
  | .unsC4 _ => false
  | .ldm _ => false
  | .stcC4 _ => false
  | .jvnL4 _ => false
  | .aamow _ _ _ => true
  | .lamow _ _ _ => true
  | .almow _ _ _ => true
  | .aamob _ _ _ => true
  | .lamob _ _ _ => true
  | .almob _ _ _ => true
  | .amowStore _ _ => true
  | .amowLoad _ _ => true
  | .amobStore _ _ => true
  | .amobLoad _ _ => true
  | .aress _ _ => true
  | .arels _ _ => true
  | .drdR _ _ => true
  | .drdX _ _ => true
  | .dwrR _ _ => true
  | .dwrX _ _ => true
  | .mrdR _ _ => true
  | .mrdX _ _ => true
  | .mwrR _ _ => true
  | .mwrX _ _ => true
  | .rspR _ => true
  | .rspX _ => true
  | .wspR _ => true
  | .wspX _ => true
  | .arsc _ _ => true
  | .ared _ _ => true
  | .alt => false
  | .lbr => false
  | .nmi => false
  | .cae => false
  | .cad => false
  | .tst => false

end Sys2Proof
end

