-- ==== Sys2Proof/Decode.lean ====
section
/-! DEFINITION. Decoding a word in the active instruction set, and encoding an instruction (R120 to R127, R139, R147 to R154).
Every literal bit is fixed: a word that differs in one is another instruction or unassigned (R136, D7). -/

namespace Sys2Proof

/-! ### Fields (R123) -/

/-- F1, bits 14:12. -/
def fieldF1 (w : Word) : RegNum := w.extractLsb' 12 3
/-- F2, bits 10:8. -/
def fieldF2 (w : Word) : RegNum := w.extractLsb' 8 3
/-- The register of the low byte, bits 2:0. -/
def fieldT (w : Word) : RegNum := w.extractLsb' 0 3
/-- The 4-bit field, bits 11:8. -/
def fieldC (w : Word) : BitVec 4 := w.extractLsb' 8 4
/-- The index selector X2, bits 15:14. -/
def fieldX (w : Word) : BitVec 2 := w.extractLsb' 14 2
/-- The 6-bit displacement, bits 13:8. -/
def fieldD (w : Word) : BitVec 6 := w.extractLsb' 8 6
/-- The 8-bit field, bits 15:8. -/
def fieldK (w : Word) : BitVec 8 := w.extractLsb' 8 8
/-- The 2-bit field of the low byte, bits 1:0. -/
def fieldQ (w : Word) : BitVec 2 := w.extractLsb' 0 2

/-- The first flag `a`, bit 15. -/
def flagA (w : Word) : Bool := w.getLsbD 15
/-- The second flag `b`, bit 11. -/
def flagB (w : Word) : Bool := w.getLsbD 11

/-- The choice that the first flag `a`, bit 15, makes: for 0, for 1. -/
def byFlag (w : Word) (zero one : Option Instr) : Option Instr := if flagA w then one else zero

/-- The choice that the second flag `b`, bit 11, makes. -/
def bySecond (w : Word) (zero one : Option Instr) : Option Instr := if flagB w then one else zero

/-- The choice that both flags make: for a b = 00, 01, 10, 11. -/
def byFlags (w : Word) (ff ft tf tt : Option Instr) : Option Instr := byFlag w (bySecond w ff ft) (bySecond w tf tt)


/-- Low byte BC, by sub-opcode in bits 15:12 (R149). -/
def decodeBC (w : Word) : Option Instr :=
  match w.extractLsb' 12 4 with
  | 0x0#4 => bySecond w (some (.ldpR (fieldF2 w))) (some (.ldpM (fieldF2 w)))
  | 0x1#4 => bySecond w (some (.sssR (fieldF2 w))) (some (.sssM (fieldF2 w)))
  | 0x2#4 => bySecond w (some (.dicpR (fieldF2 w))) (some (.dicpM (fieldF2 w)))
  | 0x3#4 => bySecond w (some (.ddcpR (fieldF2 w))) (some (.ddcpM (fieldF2 w)))
  | 0x4#4 => bySecond w (some (.ldnR (fieldF2 w))) (some (.ldnM (fieldF2 w)))
  | 0x5#4 => bySecond w (some (.ldtR (fieldF2 w))) (some (.ldtM (fieldF2 w)))
  | 0x6#4 => bySecond w (some (.swpR (fieldF2 w))) (some (.swpM (fieldF2 w)))
  | 0x7#4 => none
  | 0x8#4 => bySecond w (some (.xcu (fieldF2 w))) (some (.xcui (fieldF2 w)))
  | 0x9#4 => bySecond w (some (.invR (fieldF2 w))) (some (.invM (fieldF2 w)))
  | 0xA#4 => none
  | 0xB#4 => if w = 0xB0BC#16 then some .alt else if w = 0xB1BC#16 then some .lbr else if w = 0xB2BC#16 then some .nmi else none
  | 0xC#4 => bySecond w (some (.svtR (fieldF2 w))) (some (.svtM (fieldF2 w)))
  | 0xD#4 => bySecond w (some (.svsR (fieldF2 w))) (some (.svsM (fieldF2 w)))
  | 0xE#4 => bySecond w (some (.ldsR (fieldF2 w))) (some (.ldsM (fieldF2 w)))
  | _ => bySecond w (some (.negR (fieldF2 w))) (some (.negM (fieldF2 w)))

/-- Low byte BD, by sub-opcode in bits 15:12 (R149). -/
def decodeBD (w : Word) : Option Instr :=
  match w.extractLsb' 12 4 with
  | 0x0#4 => bySecond w (some (.slsR (fieldF2 w))) (some (.slsM (fieldF2 w)))
  | 0x1#4 | 0x2#4 => none
  | 0x3#4 => bySecond w (some (.modnR (fieldF2 w))) (some (.modnX (fieldF2 w)))
  | 0x4#4 => none
  | 0x5#4 => bySecond w (some (.svlR (fieldF2 w))) (some (.svlM (fieldF2 w)))
  | 0x6#4 => none
  | 0x7#4 => bySecond w (some (.modR (fieldF2 w))) (some (.modX (fieldF2 w)))
  | 0x8#4 => bySecond w (some (.ldlR (fieldF2 w))) (some (.ldlM (fieldF2 w)))
  | _ => none

/-- Low byte BE, by sub-opcode in bits 15:12 (R149). -/
def decodeBE (w : Word) : Option Instr :=
  match w.extractLsb' 12 4 with
  | 0x0#4 => some (.trp (fieldC w))
  | 0x1#4 => none
  | 0x2#4 => some (.svp (fieldC w))
  | 0x3#4 | 0x4#4 | 0x5#4 => none
  | 0x6#4 => bySecond w (some (.cpuR (fieldF2 w))) (some (.cpuM (fieldF2 w)))
  | 0x7#4 => some (.jvnLn4 (fieldC w))
  | 0x8#4 => if w = 0x80BE#16 then some .cae else if w = 0x81BE#16 then some .cad else if w = 0x83BE#16 then some .tst else none
  | 0x9#4 => none
  | 0xA#4 => some (.unsC4 (fieldC w))
  | 0xB#4 | 0xC#4 => none
  | 0xD#4 => some (.ldm (fieldC w))
  | 0xE#4 => some (.stcC4 (fieldC w))
  | _ => some (.jvnL4 (fieldC w))

/-- Low bytes 00 to 0F (R147). -/
def standard0 (w : Word) : Option Instr :=
  match w.extractLsb' 0 4 with
  | 0x0#4 => byFlag w none (some (.sltpRC (fieldF1 w) (fieldC w)))
  | 0x1#4 => byFlag w none (some (.sltpXC (fieldF1 w) (fieldC w)))
  | 0x2#4 => byFlag w none (some (.sgepRC (fieldF1 w) (fieldC w)))
  | 0x3#4 => byFlag w none (some (.sgepXC (fieldF1 w) (fieldC w)))
  | 0x4#4 => byFlag w none (some (.slopRC (fieldF1 w) (fieldC w)))
  | 0x5#4 => byFlag w none (some (.slopXC (fieldF1 w) (fieldC w)))
  | 0x6#4 => byFlag w none (some (.shspRC (fieldF1 w) (fieldC w)))
  | 0x7#4 => byFlag w none (some (.shspXC (fieldF1 w) (fieldC w)))
  | _ => some (.addRB6 (fieldX w) (fieldD w) (fieldT w))

/-- Low bytes 10 to 1F (R147). -/
def standard1 (w : Word) : Option Instr :=
  match w.extractLsb' 0 4 with
  | 0x0#4 => byFlag w (some (.movcCn4X (fieldF1 w) (fieldC w))) none
  | 0x1#4 => byFlags w (some (.rels (fieldF1 w) (fieldC w))) (some (.rels (fieldF1 w) (fieldC w))) (some (.mmp (fieldF1 w) (fieldF2 w))) none
  | 0x2#4 => some (.jmpiB6 (fieldX w) (fieldD w))
  | 0x3#4 => some (.dec (fieldX w) (fieldD w))
  | 0x4#4 => some (.modnB8 (fieldK w))
  | 0x5#4 => some (.modnP8 (fieldK w))
  | 0x6#4 => some (.inc (fieldX w) (fieldD w))
  | 0x7#4 => some (.jpzi (fieldK w))
  | _ => some (.movB6R (fieldX w) (fieldD w) (fieldT w))

/-- Low bytes 20 to 2F (R147). -/
def standard2 (w : Word) : Option Instr :=
  match w.extractLsb' 0 4 with
  | 0x0#4 | 0x1#4 | 0x2#4 | 0x3#4 => some (.mvp (fieldX w) (fieldD w) (fieldQ w))
  | 0x4#4 => byFlag w none (some (.srlRC (fieldF1 w) (fieldC w)))
  | 0x5#4 => byFlag w (some (.srllRC (fieldF1 w) (fieldC w))) none
  | 0x6#4 => byFlag w none (some (.sraRC (fieldF1 w) (fieldC w)))
  | 0x7#4 => some (.clr (fieldX w) (fieldD w))
  | _ => some (.movcCn8R (fieldK w) (fieldT w))

/-- Low bytes 30 to 3F (R147). -/
def standard3 (w : Word) : Option Instr :=
  match w.extractLsb' 0 4 with
  | 0x0#4 | 0x1#4 | 0x2#4 | 0x3#4 | 0x4#4 | 0x5#4 | 0x6#4 | 0x7#4 => some (.addB6R (fieldX w) (fieldD w) (fieldT w))
  | 0x8#4 => some (.sozp (fieldX w) (fieldD w))
  | 0x9#4 => some (.sonp (fieldX w) (fieldD w))
  | 0xA#4 => some (.soz (fieldX w) (fieldD w))
  | 0xB#4 => some (.son (fieldX w) (fieldD w))
  | 0xC#4 => byFlag w (some (.snepRCn (fieldF1 w) (fieldC w))) (some (.snepRC (fieldF1 w) (fieldC w)))
  | 0xD#4 => byFlag w (some (.snepXCn (fieldF1 w) (fieldC w))) (some (.snepXC (fieldF1 w) (fieldC w)))
  | 0xE#4 => byFlag w (some (.seqpRCn (fieldF1 w) (fieldC w))) (some (.seqpRC (fieldF1 w) (fieldC w)))
  | _ => byFlag w (some (.seqpXCn (fieldF1 w) (fieldC w))) (some (.seqpXC (fieldF1 w) (fieldC w)))

/-- Low bytes 40 to 4F (R147). -/
def standard4 (w : Word) : Option Instr :=
  match w.extractLsb' 0 4 with
  | 0x0#4 => byFlag w none (some (.sltRC (fieldF1 w) (fieldC w)))
  | 0x1#4 => byFlag w none (some (.sltXC (fieldF1 w) (fieldC w)))
  | 0x2#4 => byFlag w none (some (.sgeRC (fieldF1 w) (fieldC w)))
  | 0x3#4 => byFlag w none (some (.sgeXC (fieldF1 w) (fieldC w)))
  | 0x4#4 => byFlag w none (some (.sloRC (fieldF1 w) (fieldC w)))
  | 0x5#4 => byFlag w none (some (.sloXC (fieldF1 w) (fieldC w)))
  | 0x6#4 => byFlag w none (some (.shsRC (fieldF1 w) (fieldC w)))
  | 0x7#4 => byFlag w none (some (.shsXC (fieldF1 w) (fieldC w)))
  | _ => some (.movcC8R (fieldK w) (fieldT w))

/-- Low bytes 50 to 5F (R147). -/
def standard5 (w : Word) : Option Instr :=
  match w.extractLsb' 0 4 with
  | 0x0#4 => byFlag w (some (.movcC4X (fieldF1 w) (fieldC w))) none
  | 0x1#4 => byFlag w (some (.ress (fieldF1 w) (fieldC w))) none
  | 0x2#4 => byFlag w (some (.setsR (fieldF1 w) (flagB w) (fieldF2 w))) none
  | 0x3#4 => byFlag w none (some (.setsX (fieldF1 w) (flagB w) (fieldF2 w)))
  | 0x4#4 => some (.modB6 (fieldX w) (fieldD w))
  | 0x5#4 => some (.modnB6 (fieldX w) (fieldD w))
  | 0x6#4 => some (.mod8 (fieldK w))
  | 0x7#4 => none
  | 0x8#4 | 0x9#4 | 0xA#4 | 0xB#4 => some (.jmpLn10 (fieldK w) (fieldQ w))
  | 0xC#4 => some (.jmpLn8 (fieldK w))
  | 0xD#4 => some (.jmpS2Ln8 (fieldK w) .s4)
  | 0xE#4 => some (.jmpS2Ln8 (fieldK w) .s5)
  | _ => some (.jmpS2Ln8 (fieldK w) .s6)

/-- Low bytes 60 to 6F (R147). -/
def standard6 (w : Word) : Option Instr :=
  match w.extractLsb' 0 4 with
  | 0x0#4 | 0x1#4 | 0x2#4 | 0x3#4 => some (.movlLoad (fieldX w) (fieldD w) (fieldQ w))
  | 0x4#4 => byFlag w none (some (.srlXC (fieldF1 w) (fieldC w)))
  | 0x5#4 => byFlag w (some (.srllXC (fieldF1 w) (fieldC w))) none
  | 0x6#4 => byFlag w none (some (.sraXC (fieldF1 w) (fieldC w)))
  | 0x7#4 => byFlag w (some (.sxt (fieldF1 w) (fieldC w))) none
  | _ => some (.movB8R (fieldK w) (fieldT w))

/-- Low bytes 70 to 7F (R147). -/
def standard7 (w : Word) : Option Instr :=
  match w.extractLsb' 0 4 with
  | 0x0#4 | 0x1#4 | 0x2#4 | 0x3#4 | 0x4#4 | 0x5#4 | 0x6#4 | 0x7#4 => some (.movRB8 (fieldK w) (fieldT w))
  | 0x8#4 | 0x9#4 | 0xA#4 | 0xB#4 => some (.movbLoad (fieldX w) (fieldD w) (fieldQ w))
  | 0xC#4 => byFlag w (some (.sneRCn (fieldF1 w) (fieldC w))) (some (.sneRC (fieldF1 w) (fieldC w)))
  | 0xD#4 => byFlag w (some (.sneXCn (fieldF1 w) (fieldC w))) (some (.sneXC (fieldF1 w) (fieldC w)))
  | 0xE#4 => byFlag w (some (.seqRCn (fieldF1 w) (fieldC w))) (some (.seqRC (fieldF1 w) (fieldC w)))
  | _ => byFlag w (some (.seqXCn (fieldF1 w) (fieldC w))) (some (.seqXC (fieldF1 w) (fieldC w)))

/-- Low bytes 80 to 8F (R148). -/
def standard8 (w : Word) : Option Instr :=
  match w.extractLsb' 0 4 with
  | 0x0#4 | 0x1#4 | 0x2#4 | 0x3#4 | 0x4#4 | 0x5#4 | 0x6#4 | 0x7#4 => some (.movRB6 (fieldX w) (fieldD w) (fieldT w))
  | 0x8#4 => byFlag w (some (.clrsR (fieldF1 w) (flagB w) (fieldF2 w))) none
  | 0x9#4 => byFlag w none (some (.clrsX (fieldF1 w) (flagB w) (fieldF2 w)))
  | 0xA#4 => some (.addRR (flagA w) (fieldF1 w) (flagB w) (fieldF2 w))
  | 0xB#4 => some (.subRR (flagA w) (fieldF1 w) (flagB w) (fieldF2 w))
  | 0xC#4 => some (.andRR (flagA w) (fieldF1 w) (flagB w) (fieldF2 w))
  | 0xD#4 => some (.iorRR (flagA w) (fieldF1 w) (flagB w) (fieldF2 w))
  | 0xE#4 => byFlags w (some (.incdRR (fieldF1 w) (fieldF2 w))) (some (.decdRR (fieldF1 w) (fieldF2 w))) none none
  | _ => byFlags w none none (some (.incdXM (fieldF1 w) (fieldF2 w))) (some (.decdXM (fieldF1 w) (fieldF2 w)))

/-- Low bytes 90 to 9F (R148). -/
def standard9 (w : Word) : Option Instr :=
  match w.extractLsb' 0 4 with
  | 0x0#4 | 0x1#4 | 0x2#4 | 0x3#4 => some (.movbStore (fieldX w) (fieldD w) (fieldQ w))
  | 0x4#4 => some (.modB8 (fieldK w))
  | 0x5#4 => some (.modP8 (fieldK w))
  | 0x6#4 => byFlags w none (some (.sioR (fieldF1 w) (fieldF2 w))) none (some (.cioR (fieldF1 w) (fieldF2 w)))
  | 0x7#4 => byFlags w none (some (.rioR (fieldF1 w) (fieldF2 w))) none (some (.wioR (fieldF1 w) (fieldF2 w)))
  | _ => some (.movP8R (fieldK w) (fieldT w))

/-- Low bytes A0 to AF (R148). -/
def standardA (w : Word) : Option Instr :=
  match w.extractLsb' 0 4 with
  | 0x0#4 => byFlag w none (some (.sllRC (fieldF1 w) (fieldC w)))
  | 0x1#4 => byFlag w (some (.slllRC (fieldF1 w) (fieldC w))) none
  | 0x2#4 => byFlag w none (some (.slcRC (fieldF1 w) (fieldC w)))
  | 0x3#4 => byFlag w (some (.setsRC (fieldF1 w) (fieldC w))) none
  | 0x4#4 => some (.modcCn8 (fieldK w))
  | 0x5#4 => some (.mod4Cn8 (fieldK w))
  | 0x6#4 => some (.mon (fieldK w))
  | 0x7#4 => some (.rpz (fieldX w) (fieldD w))
  | _ => some (.addcCn8R (fieldK w) (fieldT w))

/-- Low bytes B0 to BF (R148). -/
def standardB (w : Word) : Option Instr :=
  match w.extractLsb' 0 4 with
  | 0x0#4 => byFlag w (some (.sbnpRC (fieldF1 w) (fieldC w))) (some (.jonRLn4 (fieldF1 w) (fieldC w)))
  | 0x1#4 => byFlag w (some (.sbnpXC (fieldF1 w) (fieldC w))) (some (.jonXLn4 (fieldF1 w) (fieldC w)))
  | 0x2#4 => byFlag w (some (.sbzpRC (fieldF1 w) (fieldC w))) (some (.jozRLn4 (fieldF1 w) (fieldC w)))
  | 0x3#4 => byFlag w (some (.sbzpXC (fieldF1 w) (fieldC w))) (some (.jozXLn4 (fieldF1 w) (fieldC w)))
  | 0x4#4 => some (.sltpRR (flagA w) (fieldF1 w) (flagB w) (fieldF2 w))
  | 0x5#4 => some (.slopRR (flagA w) (fieldF1 w) (flagB w) (fieldF2 w))
  | 0x6#4 => some (.sgepRR (flagA w) (fieldF1 w) (flagB w) (fieldF2 w))
  | 0x7#4 => some (.shspRR (flagA w) (fieldF1 w) (flagB w) (fieldF2 w))
  | 0x8#4 => some (.snepRR (flagA w) (fieldF1 w) (flagB w) (fieldF2 w))
  | 0x9#4 => byFlags w (some (.stcRM (fieldF1 w) (fieldF2 w))) (some (.unsRM (fieldF1 w) (fieldF2 w))) none none
  | 0xA#4 => some (.seqpRR (flagA w) (fieldF1 w) (flagB w) (fieldF2 w))
  | 0xB#4 => bySecond w none (some (.movR (flagA w) (fieldF1 w) (fieldF2 w)))
  | 0xC#4 => decodeBC w
  | 0xD#4 => decodeBD w
  | 0xE#4 => decodeBE w
  | _ => some (.jmpP6 (fieldX w) (fieldD w))

/-- Low bytes C0 to CF (R148). -/
def standardC (w : Word) : Option Instr :=
  match w.extractLsb' 0 4 with
  | 0x0#4 | 0x1#4 | 0x2#4 | 0x3#4 | 0x4#4 | 0x5#4 | 0x6#4 | 0x7#4 => some (.sob (fieldK w) (fieldT w))
  | _ => some (.addcC8R (fieldK w) (fieldT w))

/-- Low bytes D0 to DF (R148). -/
def standardD (w : Word) : Option Instr :=
  match w.extractLsb' 0 4 with
  | 0x0#4 | 0x1#4 | 0x2#4 | 0x3#4 => some (.movlStore (fieldX w) (fieldD w) (fieldQ w))
  | 0x4#4 => some (.adduRR (flagA w) (fieldF1 w) (flagB w) (fieldF2 w))
  | 0x5#4 => some (.subuRR (flagA w) (fieldF1 w) (flagB w) (fieldF2 w))
  | 0x6#4 => byFlags w none (some (.sioX (fieldF1 w) (fieldF2 w))) none (some (.cioX (fieldF1 w) (fieldF2 w)))
  | 0x7#4 => byFlags w none (some (.rioX (fieldF1 w) (fieldF2 w))) none (some (.wioX (fieldF1 w) (fieldF2 w)))
  | 0x8#4 | 0x9#4 | 0xA#4 | 0xB#4 => some (.jmpL10 (fieldK w) (fieldQ w))
  | 0xC#4 => some (.jmpL8 (fieldK w))
  | 0xD#4 => some (.jmpS2L8 (fieldK w) .s4)
  | 0xE#4 => some (.jmpS2L8 (fieldK w) .s5)
  | _ => some (.jmpS2L8 (fieldK w) .s6)

/-- Low bytes E0 to EF (R148). -/
def standardE (w : Word) : Option Instr :=
  match w.extractLsb' 0 4 with
  | 0x0#4 => byFlag w none (some (.sllXC (fieldF1 w) (fieldC w)))
  | 0x1#4 => byFlag w (some (.slllXC (fieldF1 w) (fieldC w))) none
  | 0x2#4 => byFlag w none (some (.slcXC (fieldF1 w) (fieldC w)))
  | 0x3#4 => byFlag w (some (.setsXC (fieldF1 w) (fieldC w))) (if w.getLsbD 14 then none else some (.rtmi (fieldD w)))
  | 0x4#4 => some (.modcC8 (fieldK w))
  | 0x5#4 => some (.mod4C8 (fieldK w))
  | 0x6#4 => some (.rtm (fieldX w) (fieldD w))
  | 0x7#4 => some (.jmpiB8 (fieldK w))
  | 0x8#4 => byFlags w (some (.xor false (fieldF1 w) (fieldF2 w))) none (some (.xor true (fieldF1 w) (fieldF2 w))) (some (.putX (fieldF1 w) (fieldF2 w)))
  | 0x9#4 => byFlags w none (some (.movm (fieldF1 w) (fieldF2 w))) none (some (.putR (fieldF1 w) (fieldF2 w)))
  | 0xA#4 => bySecond w none (some (.mul (flagA w) (fieldF1 w) (fieldF2 w)))
  | 0xB#4 => bySecond w (some (.div (flagA w) (fieldF1 w) (fieldF2 w))) none
  | 0xC#4 => byFlag w (some (.xtrRC (fieldF1 w) (fieldC w))) none
  | 0xD#4 => byFlag w none (some (.xtrXC (fieldF1 w) (fieldC w)))
  | 0xE#4 => byFlag w (some (.xchR (fieldF1 w) (flagB w) (fieldF2 w))) none
  | _ => byFlag w none (some (.xchX (fieldF1 w) (flagB w) (fieldF2 w)))

/-- Low bytes F0 to FF (R148). -/
def standardF (w : Word) : Option Instr :=
  match w.extractLsb' 0 4 with
  | 0x0#4 => byFlag w (some (.sbnRC (fieldF1 w) (fieldC w))) (some (.jonRL4 (fieldF1 w) (fieldC w)))
  | 0x1#4 => byFlag w (some (.sbnXC (fieldF1 w) (fieldC w))) (some (.jonXL4 (fieldF1 w) (fieldC w)))
  | 0x2#4 => byFlag w (some (.sbzRC (fieldF1 w) (fieldC w))) (some (.jozRL4 (fieldF1 w) (fieldC w)))
  | 0x3#4 => byFlag w (some (.sbzXC (fieldF1 w) (fieldC w))) (some (.jozXL4 (fieldF1 w) (fieldC w)))
  | 0x4#4 => some (.sltRR (flagA w) (fieldF1 w) (flagB w) (fieldF2 w))
  | 0x5#4 => some (.sloRR (flagA w) (fieldF1 w) (flagB w) (fieldF2 w))
  | 0x6#4 => some (.sgeRR (flagA w) (fieldF1 w) (flagB w) (fieldF2 w))
  | 0x7#4 => some (.shsRR (flagA w) (fieldF1 w) (flagB w) (fieldF2 w))
  | 0x8#4 => some (.sneRR (flagA w) (fieldF1 w) (flagB w) (fieldF2 w))
  | 0x9#4 => byFlags w (some (.stcXM (fieldF1 w) (fieldF2 w))) (some (.unsXM (fieldF1 w) (fieldF2 w))) none none
  | 0xA#4 => some (.seqRR (flagA w) (fieldF1 w) (flagB w) (fieldF2 w))
  | 0xB#4 => bySecond w none (some (.movX (flagA w) (fieldF1 w) (fieldF2 w)))
  | 0xC#4 => some (.jmpiP8 (fieldK w))
  | 0xD#4 => some (.jmpiS2P8 (fieldK w) .s4)
  | 0xE#4 => some (.jmpiS2P8 (fieldK w) .s5)
  | _ => some (.jmpiS2P8 (fieldK w) .s6)

/-- The standard set (R147 to R149). -/
def decodeStandard (w : Word) : Option Instr :=
  match w.extractLsb' 4 4 with
  | 0x0#4 => standard0 w
  | 0x1#4 => standard1 w
  | 0x2#4 => standard2 w
  | 0x3#4 => standard3 w
  | 0x4#4 => standard4 w
  | 0x5#4 => standard5 w
  | 0x6#4 => standard6 w
  | 0x7#4 => standard7 w
  | 0x8#4 => standard8 w
  | 0x9#4 => standard9 w
  | 0xA#4 => standardA w
  | 0xB#4 => standardB w
  | 0xC#4 => standardC w
  | 0xD#4 => standardD w
  | 0xE#4 => standardE w
  | _ => standardF w

/-- Low bytes 50 to 5F (R151). -/
def alternative5 (w : Word) : Option Instr :=
  match w.extractLsb' 0 4 with
  | 0x0#4 => none
  | 0x1#4 => byFlags w (some (.mrdR (fieldF1 w) (fieldF2 w))) (some (.mrdX (fieldF1 w) (fieldF2 w))) (some (.mwrR (fieldF1 w) (fieldF2 w))) (some (.mwrX (fieldF1 w) (fieldF2 w)))
  | 0x2#4 => if w.extractLsb' 8 3 = 0#3 then byFlags w (some (.rspR (fieldF1 w))) (some (.rspX (fieldF1 w))) (some (.wspR (fieldF1 w))) (some (.wspX (fieldF1 w))) else none
  | 0x3#4 => byFlags w (some (.arsc (fieldF1 w) (fieldF2 w))) none (some (.ared (fieldF1 w) (fieldF2 w))) none
  | _ => none

/-- Low bytes 80 to 8F (R151). -/
def alternative8 (w : Word) : Option Instr :=
  match w.extractLsb' 0 4 with
  | 0x0#4 | 0x1#4 | 0x2#4 | 0x3#4 | 0x4#4 | 0x5#4 | 0x6#4 | 0x7#4 => byFlags w (some (.aamow (fieldF1 w) (fieldF2 w) (fieldT w))) (some (.almow (fieldF1 w) (fieldF2 w) (fieldT w))) (some (.lamow (fieldF1 w) (fieldF2 w) (fieldT w))) none
  | _ => byFlags w (some (.aamob (fieldF1 w) (fieldF2 w) (fieldT w))) (some (.almob (fieldF1 w) (fieldF2 w) (fieldT w))) (some (.lamob (fieldF1 w) (fieldF2 w) (fieldT w))) none

/-- Low bytes 90 to 9F (R151). -/
def alternative9 (w : Word) : Option Instr :=
  match w.extractLsb' 0 4 with
  | 0x0#4 => none
  | 0x1#4 => byFlags w (some (.amowStore (fieldF1 w) (fieldF2 w))) (some (.amowLoad (fieldF1 w) (fieldF2 w))) (some (.amobStore (fieldF1 w) (fieldF2 w))) (some (.amobLoad (fieldF1 w) (fieldF2 w)))
  | 0x2#4 => byFlag w (some (.aress (fieldF1 w) (fieldC w))) (some (.arels (fieldF1 w) (fieldC w)))
  | 0x3#4 => byFlags w (some (.drdR (fieldF1 w) (fieldF2 w))) (some (.drdX (fieldF1 w) (fieldF2 w))) (some (.dwrR (fieldF1 w) (fieldF2 w))) (some (.dwrX (fieldF1 w) (fieldF2 w)))
  | _ => none

/-- The alternative set (R151). -/
def decodeAlternative (w : Word) : Option Instr :=
  match w.extractLsb' 4 4 with
  | 0x5#4 => alternative5 w
  | 0x8#4 => alternative8 w
  | 0x9#4 => alternative9 w
  | _ => none

/-- A word looked up in the set that PSW bit 12 selects (R139, R150). -/
def decodeSet (alternative : Bool) (w : Word) : Option Instr :=
  if alternative then decodeAlternative w else decodeStandard w

/-- The instruction that a word stands for on a CPU type, or none: the word is unassigned (R139, R153). -/
def decodeFor (cpu : CpuType) (alternative : Bool) (w : Word) : Option Instr :=
  (decodeSet alternative w).filter (·.decodesOn cpu)

/-- The word that the first two bytes of an instruction make, its low byte first (R90, R120). -/
def wordOfBytes (low high : Byte) : Word := high ++ low

/-- The word of an opcode-table row whose bits are `w`: one word, low byte in bits 7:0. -/
def tableWord (nbits w : Nat) : Word :=
  wordOfBytes (BitVec.ofNat 8 (w % 2 ^ nbits)) (BitVec.ofNat 8 (w % 2 ^ nbits / 256))

/-- The instruction a word of the opcode table stands for. The table's number does not say which set a word is meant in,
so the standard set is asked first and the alternative set where the standard set does not assign the word
(DESIGN CHOICE, log 31). -/
def decodeTableWord (nbits w : Nat) : Option Instr :=
  match decodeStandard (tableWord nbits w) with
  | some i => some i
  | none => decodeAlternative (tableWord nbits w)

/-! ### Encoding: the formats of R122 -/

/-- `a rrr b sss oooooooo` -/
def encodeRR (a : BitVec 1) (r : RegNum) (b : BitVec 1) (s : RegNum) (lo : Byte) : Word := a ++ r ++ b ++ s ++ lo
/-- `a rrr cccc oooooooo` -/
def encodeRC (a : BitVec 1) (r : RegNum) (c : BitVec 4) (lo : Byte) : Word := a ++ r ++ c ++ lo
/-- `xx dddddd oooooooo` -/
def encodeXD (x : BitVec 2) (d : BitVec 6) (lo : Byte) : Word := x ++ d ++ lo
/-- `xx dddddd ooooo ttt` -/
def encodeXDR3 (x : BitVec 2) (d : BitVec 6) (op : BitVec 5) (t : RegNum) : Word := x ++ d ++ op ++ t
/-- `xx dddddd oooooo qq` -/
def encodeXDR2 (x : BitVec 2) (d : BitVec 6) (op : BitVec 6) (q : BitVec 2) : Word := x ++ d ++ op ++ q
/-- `kkkkkkkk oooooooo` -/
def encodeK8 (k lo : BitVec 8) : Word := k ++ lo
/-- `kkkkkkkk ooooo ttt` -/
def encodeK8R3 (k : BitVec 8) (op : BitVec 5) (t : RegNum) : Word := k ++ op ++ t
/-- `kkkkkkkk oooooo qq` -/
def encodeK8Q (k : BitVec 8) (op : BitVec 6) (q : BitVec 2) : Word := k ++ op ++ q
/-- The field value of a return link register (R125). -/
def linkField : Link → BitVec 2
  | .s4 => 1
  | .s5 => 2
  | .s6 => 3
/-- `ssss b sss oooooooo` -/
def encodeSR (sub : BitVec 4) (b : BitVec 1) (s : RegNum) (lo : Byte) : Word := sub ++ b ++ s ++ lo
/-- `ssss cccc oooooooo` -/
def encodeSC (sub c : BitVec 4) (lo : Byte) : Word := sub ++ c ++ lo
/-- The block moves of R151: `a rrr b sss ooooo ttt` -/
def encodeBlock (a : BitVec 1) (r : RegNum) (b : BitVec 1) (s : RegNum) (op : BitVec 5) (t : RegNum) : Word :=
  a ++ r ++ b ++ s ++ op ++ t


/-- The word of an instruction, written from the same maps (R121 to R123, R147 to R151). -/
def encode : Instr → Word
  | .sltpRC f1 c => encodeRC 1#1 f1 c 0x00#8
  | .sltpXC f1 c => encodeRC 1#1 f1 c 0x01#8
  | .sgepRC f1 c => encodeRC 1#1 f1 c 0x02#8
  | .sgepXC f1 c => encodeRC 1#1 f1 c 0x03#8
  | .slopRC f1 c => encodeRC 1#1 f1 c 0x04#8
  | .slopXC f1 c => encodeRC 1#1 f1 c 0x05#8
  | .shspRC f1 c => encodeRC 1#1 f1 c 0x06#8
  | .shspXC f1 c => encodeRC 1#1 f1 c 0x07#8
  | .sltRC f1 c => encodeRC 1#1 f1 c 0x40#8
  | .sltXC f1 c => encodeRC 1#1 f1 c 0x41#8
  | .sgeRC f1 c => encodeRC 1#1 f1 c 0x42#8
  | .sgeXC f1 c => encodeRC 1#1 f1 c 0x43#8
  | .sloRC f1 c => encodeRC 1#1 f1 c 0x44#8
  | .sloXC f1 c => encodeRC 1#1 f1 c 0x45#8
  | .shsRC f1 c => encodeRC 1#1 f1 c 0x46#8
  | .shsXC f1 c => encodeRC 1#1 f1 c 0x47#8
  | .addRB6 x d t => encodeXDR3 x d 0x01#5 t
  | .movcCn4X f1 c => encodeRC 0#1 f1 c 0x10#8
  | .rels f1 c => encodeRC 0#1 f1 c 0x11#8
  | .mmp f1 f2 => encodeRR 1#1 f1 0#1 f2 0x11#8
  | .jmpiB6 x d => encodeXD x d 0x12#8
  | .dec x d => encodeXD x d 0x13#8
  | .modnB8 k => encodeK8 k 0x14#8
  | .modnP8 k => encodeK8 k 0x15#8
  | .inc x d => encodeXD x d 0x16#8
  | .jpzi k => encodeK8 k 0x17#8
  | .movB6R x d t => encodeXDR3 x d 0x03#5 t
  | .mvp x d q => encodeXDR2 x d 0x08#6 q
  | .srlRC f1 c => encodeRC 1#1 f1 c 0x24#8
  | .srllRC f1 c => encodeRC 0#1 f1 c 0x25#8
  | .sraRC f1 c => encodeRC 1#1 f1 c 0x26#8
  | .clr x d => encodeXD x d 0x27#8
  | .movcCn8R k t => encodeK8R3 k 0x05#5 t
  | .addB6R x d t => encodeXDR3 x d 0x06#5 t
  | .sozp x d => encodeXD x d 0x38#8
  | .sonp x d => encodeXD x d 0x39#8
  | .soz x d => encodeXD x d 0x3A#8
  | .son x d => encodeXD x d 0x3B#8
  | .snepRCn f1 c => encodeRC 0#1 f1 c 0x3C#8
  | .snepRC f1 c => encodeRC 1#1 f1 c 0x3C#8
  | .snepXCn f1 c => encodeRC 0#1 f1 c 0x3D#8
  | .snepXC f1 c => encodeRC 1#1 f1 c 0x3D#8
  | .seqpRCn f1 c => encodeRC 0#1 f1 c 0x3E#8
  | .seqpRC f1 c => encodeRC 1#1 f1 c 0x3E#8
  | .seqpXCn f1 c => encodeRC 0#1 f1 c 0x3F#8
  | .seqpXC f1 c => encodeRC 1#1 f1 c 0x3F#8
  | .sneRCn f1 c => encodeRC 0#1 f1 c 0x7C#8
  | .sneRC f1 c => encodeRC 1#1 f1 c 0x7C#8
  | .sneXCn f1 c => encodeRC 0#1 f1 c 0x7D#8
  | .sneXC f1 c => encodeRC 1#1 f1 c 0x7D#8
  | .seqRCn f1 c => encodeRC 0#1 f1 c 0x7E#8
  | .seqRC f1 c => encodeRC 1#1 f1 c 0x7E#8
  | .seqXCn f1 c => encodeRC 0#1 f1 c 0x7F#8
  | .seqXC f1 c => encodeRC 1#1 f1 c 0x7F#8
  | .movcC8R k t => encodeK8R3 k 0x09#5 t
  | .movcC4X f1 c => encodeRC 0#1 f1 c 0x50#8
  | .ress f1 c => encodeRC 0#1 f1 c 0x51#8
  | .setsR f1 b f2 => encodeRR 0#1 f1 (.ofBool b) f2 0x52#8
  | .setsX f1 b f2 => encodeRR 1#1 f1 (.ofBool b) f2 0x53#8
  | .modB6 x d => encodeXD x d 0x54#8
  | .modnB6 x d => encodeXD x d 0x55#8
  | .mod8 k => encodeK8 k 0x56#8
  | .jmpLn10 k q => encodeK8Q k 0x16#6 q
  | .jmpLn8 k => encodeK8 k 0x5C#8
  | .jmpS2Ln8 k l => encodeK8Q k 0x17#6 (linkField l)
  | .movlLoad x d q => encodeXDR2 x d 0x18#6 q
  | .srlXC f1 c => encodeRC 1#1 f1 c 0x64#8
  | .srllXC f1 c => encodeRC 0#1 f1 c 0x65#8
  | .sraXC f1 c => encodeRC 1#1 f1 c 0x66#8
  | .sxt f1 c => encodeRC 0#1 f1 c 0x67#8
  | .movB8R k t => encodeK8R3 k 0x0D#5 t
  | .movRB8 k t => encodeK8R3 k 0x0E#5 t
  | .movbLoad x d q => encodeXDR2 x d 0x1E#6 q
  | .movRB6 x d t => encodeXDR3 x d 0x10#5 t
  | .clrsR f1 b f2 => encodeRR 0#1 f1 (.ofBool b) f2 0x88#8
  | .clrsX f1 b f2 => encodeRR 1#1 f1 (.ofBool b) f2 0x89#8
  | .addRR a f1 b f2 => encodeRR (.ofBool a) f1 (.ofBool b) f2 0x8A#8
  | .subRR a f1 b f2 => encodeRR (.ofBool a) f1 (.ofBool b) f2 0x8B#8
  | .andRR a f1 b f2 => encodeRR (.ofBool a) f1 (.ofBool b) f2 0x8C#8
  | .iorRR a f1 b f2 => encodeRR (.ofBool a) f1 (.ofBool b) f2 0x8D#8
  | .incdRR f1 f2 => encodeRR 0#1 f1 0#1 f2 0x8E#8
  | .decdRR f1 f2 => encodeRR 0#1 f1 1#1 f2 0x8E#8
  | .incdXM f1 f2 => encodeRR 1#1 f1 0#1 f2 0x8F#8
  | .decdXM f1 f2 => encodeRR 1#1 f1 1#1 f2 0x8F#8
  | .movbStore x d q => encodeXDR2 x d 0x24#6 q
  | .modB8 k => encodeK8 k 0x94#8
  | .modP8 k => encodeK8 k 0x95#8
  | .sioR f1 f2 => encodeRR 0#1 f1 1#1 f2 0x96#8
  | .cioR f1 f2 => encodeRR 1#1 f1 1#1 f2 0x96#8
  | .rioR f1 f2 => encodeRR 0#1 f1 1#1 f2 0x97#8
  | .wioR f1 f2 => encodeRR 1#1 f1 1#1 f2 0x97#8
  | .movP8R k t => encodeK8R3 k 0x13#5 t
  | .sllRC f1 c => encodeRC 1#1 f1 c 0xA0#8
  | .slllRC f1 c => encodeRC 0#1 f1 c 0xA1#8
  | .slcRC f1 c => encodeRC 1#1 f1 c 0xA2#8
  | .setsRC f1 c => encodeRC 0#1 f1 c 0xA3#8
  | .modcCn8 k => encodeK8 k 0xA4#8
  | .mod4Cn8 k => encodeK8 k 0xA5#8
  | .mon k => encodeK8 k 0xA6#8
  | .rpz x d => encodeXD x d 0xA7#8
  | .addcCn8R k t => encodeK8R3 k 0x15#5 t
  | .sbnpRC f1 c => encodeRC 0#1 f1 c 0xB0#8
  | .jonRLn4 f1 c => encodeRC 1#1 f1 c 0xB0#8
  | .sbnpXC f1 c => encodeRC 0#1 f1 c 0xB1#8
  | .jonXLn4 f1 c => encodeRC 1#1 f1 c 0xB1#8
  | .sbzpRC f1 c => encodeRC 0#1 f1 c 0xB2#8
  | .jozRLn4 f1 c => encodeRC 1#1 f1 c 0xB2#8
  | .sbzpXC f1 c => encodeRC 0#1 f1 c 0xB3#8
  | .jozXLn4 f1 c => encodeRC 1#1 f1 c 0xB3#8
  | .sbnRC f1 c => encodeRC 0#1 f1 c 0xF0#8
  | .jonRL4 f1 c => encodeRC 1#1 f1 c 0xF0#8
  | .sbnXC f1 c => encodeRC 0#1 f1 c 0xF1#8
  | .jonXL4 f1 c => encodeRC 1#1 f1 c 0xF1#8
  | .sbzRC f1 c => encodeRC 0#1 f1 c 0xF2#8
  | .jozRL4 f1 c => encodeRC 1#1 f1 c 0xF2#8
  | .sbzXC f1 c => encodeRC 0#1 f1 c 0xF3#8
  | .jozXL4 f1 c => encodeRC 1#1 f1 c 0xF3#8
  | .sltpRR a f1 b f2 => encodeRR (.ofBool a) f1 (.ofBool b) f2 0xB4#8
  | .slopRR a f1 b f2 => encodeRR (.ofBool a) f1 (.ofBool b) f2 0xB5#8
  | .sgepRR a f1 b f2 => encodeRR (.ofBool a) f1 (.ofBool b) f2 0xB6#8
  | .shspRR a f1 b f2 => encodeRR (.ofBool a) f1 (.ofBool b) f2 0xB7#8
  | .snepRR a f1 b f2 => encodeRR (.ofBool a) f1 (.ofBool b) f2 0xB8#8
  | .stcRM f1 f2 => encodeRR 0#1 f1 0#1 f2 0xB9#8
  | .unsRM f1 f2 => encodeRR 0#1 f1 1#1 f2 0xB9#8
  | .seqpRR a f1 b f2 => encodeRR (.ofBool a) f1 (.ofBool b) f2 0xBA#8
  | .movR a f1 f2 => encodeRR (.ofBool a) f1 1#1 f2 0xBB#8
  | .jmpP6 x d => encodeXD x d 0xBF#8
  | .sob k t => encodeK8R3 k 0x18#5 t
  | .addcC8R k t => encodeK8R3 k 0x19#5 t
  | .movlStore x d q => encodeXDR2 x d 0x34#6 q
  | .adduRR a f1 b f2 => encodeRR (.ofBool a) f1 (.ofBool b) f2 0xD4#8
  | .subuRR a f1 b f2 => encodeRR (.ofBool a) f1 (.ofBool b) f2 0xD5#8
  | .sioX f1 f2 => encodeRR 0#1 f1 1#1 f2 0xD6#8
  | .cioX f1 f2 => encodeRR 1#1 f1 1#1 f2 0xD6#8
  | .rioX f1 f2 => encodeRR 0#1 f1 1#1 f2 0xD7#8
  | .wioX f1 f2 => encodeRR 1#1 f1 1#1 f2 0xD7#8
  | .jmpL10 k q => encodeK8Q k 0x36#6 q
  | .jmpL8 k => encodeK8 k 0xDC#8
  | .jmpS2L8 k l => encodeK8Q k 0x37#6 (linkField l)
  | .sllXC f1 c => encodeRC 1#1 f1 c 0xE0#8
  | .slllXC f1 c => encodeRC 0#1 f1 c 0xE1#8
  | .slcXC f1 c => encodeRC 1#1 f1 c 0xE2#8
  | .setsXC f1 c => encodeRC 0#1 f1 c 0xE3#8
  | .rtmi d => encodeXD 2#2 d 0xE3#8
  | .modcC8 k => encodeK8 k 0xE4#8
  | .mod4C8 k => encodeK8 k 0xE5#8
  | .rtm x d => encodeXD x d 0xE6#8
  | .jmpiB8 k => encodeK8 k 0xE7#8
  | .xor a f1 f2 => encodeRR (.ofBool a) f1 0#1 f2 0xE8#8
  | .putX f1 f2 => encodeRR 1#1 f1 1#1 f2 0xE8#8
  | .movm f1 f2 => encodeRR 0#1 f1 1#1 f2 0xE9#8
  | .putR f1 f2 => encodeRR 1#1 f1 1#1 f2 0xE9#8
  | .mul a f1 f2 => encodeRR (.ofBool a) f1 1#1 f2 0xEA#8
  | .div a f1 f2 => encodeRR (.ofBool a) f1 0#1 f2 0xEB#8
  | .xtrRC f1 c => encodeRC 0#1 f1 c 0xEC#8
  | .xtrXC f1 c => encodeRC 1#1 f1 c 0xED#8
  | .xchR f1 b f2 => encodeRR 0#1 f1 (.ofBool b) f2 0xEE#8
  | .xchX f1 b f2 => encodeRR 1#1 f1 (.ofBool b) f2 0xEF#8
  | .sltRR a f1 b f2 => encodeRR (.ofBool a) f1 (.ofBool b) f2 0xF4#8
  | .sloRR a f1 b f2 => encodeRR (.ofBool a) f1 (.ofBool b) f2 0xF5#8
  | .sgeRR a f1 b f2 => encodeRR (.ofBool a) f1 (.ofBool b) f2 0xF6#8
  | .shsRR a f1 b f2 => encodeRR (.ofBool a) f1 (.ofBool b) f2 0xF7#8
  | .sneRR a f1 b f2 => encodeRR (.ofBool a) f1 (.ofBool b) f2 0xF8#8
  | .stcXM f1 f2 => encodeRR 0#1 f1 0#1 f2 0xF9#8
  | .unsXM f1 f2 => encodeRR 0#1 f1 1#1 f2 0xF9#8
  | .seqRR a f1 b f2 => encodeRR (.ofBool a) f1 (.ofBool b) f2 0xFA#8
  | .movX a f1 f2 => encodeRR (.ofBool a) f1 1#1 f2 0xFB#8
  | .jmpiP8 k => encodeK8 k 0xFC#8
  | .jmpiS2P8 k l => encodeK8Q k 0x3F#6 (linkField l)
  | .ldpR f2 => encodeSR 0x0#4 0#1 f2 0xBC#8
  | .ldpM f2 => encodeSR 0x0#4 1#1 f2 0xBC#8
  | .sssR f2 => encodeSR 0x1#4 0#1 f2 0xBC#8
  | .sssM f2 => encodeSR 0x1#4 1#1 f2 0xBC#8
  | .dicpR f2 => encodeSR 0x2#4 0#1 f2 0xBC#8
  | .dicpM f2 => encodeSR 0x2#4 1#1 f2 0xBC#8
  | .ddcpR f2 => encodeSR 0x3#4 0#1 f2 0xBC#8
  | .ddcpM f2 => encodeSR 0x3#4 1#1 f2 0xBC#8
  | .ldnR f2 => encodeSR 0x4#4 0#1 f2 0xBC#8
  | .ldnM f2 => encodeSR 0x4#4 1#1 f2 0xBC#8
  | .ldtR f2 => encodeSR 0x5#4 0#1 f2 0xBC#8
  | .ldtM f2 => encodeSR 0x5#4 1#1 f2 0xBC#8
  | .swpR f2 => encodeSR 0x6#4 0#1 f2 0xBC#8
  | .swpM f2 => encodeSR 0x6#4 1#1 f2 0xBC#8
  | .xcu f2 => encodeSR 0x8#4 0#1 f2 0xBC#8
  | .xcui f2 => encodeSR 0x8#4 1#1 f2 0xBC#8
  | .invR f2 => encodeSR 0x9#4 0#1 f2 0xBC#8
  | .invM f2 => encodeSR 0x9#4 1#1 f2 0xBC#8
  | .svtR f2 => encodeSR 0xC#4 0#1 f2 0xBC#8
  | .svtM f2 => encodeSR 0xC#4 1#1 f2 0xBC#8
  | .svsR f2 => encodeSR 0xD#4 0#1 f2 0xBC#8
  | .svsM f2 => encodeSR 0xD#4 1#1 f2 0xBC#8
  | .ldsR f2 => encodeSR 0xE#4 0#1 f2 0xBC#8
  | .ldsM f2 => encodeSR 0xE#4 1#1 f2 0xBC#8
  | .negR f2 => encodeSR 0xF#4 0#1 f2 0xBC#8
  | .negM f2 => encodeSR 0xF#4 1#1 f2 0xBC#8
  | .slsR f2 => encodeSR 0x0#4 0#1 f2 0xBD#8
  | .slsM f2 => encodeSR 0x0#4 1#1 f2 0xBD#8
  | .modnR f2 => encodeSR 0x3#4 0#1 f2 0xBD#8
  | .modnX f2 => encodeSR 0x3#4 1#1 f2 0xBD#8
  | .svlR f2 => encodeSR 0x5#4 0#1 f2 0xBD#8
  | .svlM f2 => encodeSR 0x5#4 1#1 f2 0xBD#8
  | .modR f2 => encodeSR 0x7#4 0#1 f2 0xBD#8
  | .modX f2 => encodeSR 0x7#4 1#1 f2 0xBD#8
  | .ldlR f2 => encodeSR 0x8#4 0#1 f2 0xBD#8
  | .ldlM f2 => encodeSR 0x8#4 1#1 f2 0xBD#8
  | .trp c => encodeSC 0x0#4 c 0xBE#8
  | .svp c => encodeSC 0x2#4 c 0xBE#8
  | .cpuR f2 => encodeSR 0x6#4 0#1 f2 0xBE#8
  | .cpuM f2 => encodeSR 0x6#4 1#1 f2 0xBE#8
  | .jvnLn4 c => encodeSC 0x7#4 c 0xBE#8
  | .unsC4 c => encodeSC 0xA#4 c 0xBE#8
  | .ldm c => encodeSC 0xD#4 c 0xBE#8
  | .stcC4 c => encodeSC 0xE#4 c 0xBE#8
  | .jvnL4 c => encodeSC 0xF#4 c 0xBE#8
  | .aamow f1 f2 t => encodeBlock 0#1 f1 0#1 f2 0x10#5 t
  | .lamow f1 f2 t => encodeBlock 1#1 f1 0#1 f2 0x10#5 t
  | .almow f1 f2 t => encodeBlock 0#1 f1 1#1 f2 0x10#5 t
  | .aamob f1 f2 t => encodeBlock 0#1 f1 0#1 f2 0x11#5 t
  | .lamob f1 f2 t => encodeBlock 1#1 f1 0#1 f2 0x11#5 t
  | .almob f1 f2 t => encodeBlock 0#1 f1 1#1 f2 0x11#5 t
  | .amowStore f1 f2 => encodeRR 0#1 f1 0#1 f2 0x91#8
  | .amowLoad f1 f2 => encodeRR 0#1 f1 1#1 f2 0x91#8
  | .amobStore f1 f2 => encodeRR 1#1 f1 0#1 f2 0x91#8
  | .amobLoad f1 f2 => encodeRR 1#1 f1 1#1 f2 0x91#8
  | .aress f1 c => encodeRC 0#1 f1 c 0x92#8
  | .arels f1 c => encodeRC 1#1 f1 c 0x92#8
  | .drdR f1 f2 => encodeRR 0#1 f1 0#1 f2 0x93#8
  | .drdX f1 f2 => encodeRR 0#1 f1 1#1 f2 0x93#8
  | .dwrR f1 f2 => encodeRR 1#1 f1 0#1 f2 0x93#8
  | .dwrX f1 f2 => encodeRR 1#1 f1 1#1 f2 0x93#8
  | .mrdR f1 f2 => encodeRR 0#1 f1 0#1 f2 0x51#8
  | .mrdX f1 f2 => encodeRR 0#1 f1 1#1 f2 0x51#8
  | .mwrR f1 f2 => encodeRR 1#1 f1 0#1 f2 0x51#8
  | .mwrX f1 f2 => encodeRR 1#1 f1 1#1 f2 0x51#8
  | .rspR f1 => encodeRR 0#1 f1 0#1 0#3 0x52#8
  | .rspX f1 => encodeRR 0#1 f1 1#1 0#3 0x52#8
  | .wspR f1 => encodeRR 1#1 f1 0#1 0#3 0x52#8
  | .wspX f1 => encodeRR 1#1 f1 1#1 0#3 0x52#8
  | .arsc f1 f2 => encodeRR 0#1 f1 0#1 f2 0x53#8
  | .ared f1 f2 => encodeRR 1#1 f1 0#1 f2 0x53#8
  | .alt => 0xB0BC#16
  | .lbr => 0xB1BC#16
  | .nmi => 0xB2BC#16
  | .cae => 0x80BE#16
  | .cad => 0x81BE#16
  | .tst => 0x83BE#16

end Sys2Proof
end

