-- ==== Sys2Proof/Machine/Fetch.lean ====
section
/-! DEFINITION. Fetching and decoding the next instruction (R34, R83, R139, R150, R324), and placing one for the very next step. -/

namespace Sys2Proof.Machine

/-- The next instruction word: the one XCU or XCUI left to be executed, else the word of the current program page at LOC (R34, R83, R324).
A fetch sees every earlier store (D20). -/
def State.fetch (s : State) : Run Word :=
  match s.instr with
  | some w => .ok w
  | none => s.loadProg s.pc

/-- Whether the next word is decoded in the alternative set: PSW bit 12, but a word of XCU or XCUI is decoded in the standard set (R150, R324). -/
def State.alternativeNext (s : State) : Bool := s.instr.isNone && s.alt

/-- The instruction that the next word stands for, or none: the word is unassigned (R139, R153). -/
def State.decodeNext (s : State) (w : Word) : Option Instr := decodeFor s.plat.cpu s.alternativeNext w

/-- The state in which the fetched instruction is executed: the word of XCU or XCUI is used up. -/
def State.taken (s : State) : State := { s with instr := none }

/-- A word put where the next step fetches, in the set that is to decode it, nothing else waiting before it (log 32). -/
def State.placeWord (s : State) (alternative : Bool) (w : Word) : State :=
  let s1 := { s.setAlt alternative with instr := none, awaitingNmi := false }
  { s1 with mem := s1.mem.writeWord (wordIndex s1.progCur s1.pc) w }

/-- The set in which `decodeTableWord` reads a word: the alternative set where the standard set does not assign it (log 31). -/
def tableWordAlternative (w : Word) : Bool := (decodeStandard w).isNone

end Sys2Proof.Machine
end

