-- ==== Sys2Proof/Machine/Step.lean ====
section
/-! DEFINITION. One step of the CPU: a word is fetched, decoded in the active set, and executed (R34, R139). -/

namespace Sys2Proof.Machine

/-- One step. A CPU that awaits an NMI notification makes none (R330, U18); an unassigned word stops (R154, U1). -/
def step (s : State) : Host.Outcome State Fault Refusal :=
  if s.awaitingNmi then .fault (.awaitingNmi s)
  else
    match s.fetch with
    | .error e => e.outcome
    | .ok w =>
      match s.decodeNext w with
      | none => .fault (.unassignedEncoding w s)
      | some i => exec i s.taken

/-- A state with a word of the opcode table stored where `step` fetches its next instruction (log 31, 32). -/
def State.withFetchWord (s : State) (nbits w : Nat) : State :=
  s.placeWord (tableWordAlternative (tableWord nbits w)) (tableWord nbits w)

end Sys2Proof.Machine
end

