-- ==== Sys2Proof/Machine/Run.lean ====
section
/-! DEFINITION. A run: the launch state it starts from and how it ends (R420, R421, R441; log 38). -/

namespace Sys2Proof.Machine

/-! ### The launch (R421) -/

/-- The conditions on a launch state: MOD 0 and MODIFIED false, PSW bit 12 clear unless the first word is meant for the alternative set,
semaphore blocking clear, no instruction in progress (R421). -/
def State.launchable (s : State) (alternative : Bool) : Bool :=
  s.mod == 0 && !s.modified && (alternative || !s.alt) && !s.semBlock && s.instr.isNone && !s.awaitingNmi

/-- The launch of a machine in a state that the platform supplies. A state that violates R421 is refused (U14). -/
def State.launch (s : State) (alternative : Bool) : Answer :=
  if s.launchable alternative then .next s else .refused .launchState

/-! ### The end (R441) -/

/-- LOC has reached the address that the platform designates as the end, with no instruction in progress (R441, D24). -/
def State.atEnd (s : State) : Bool := s.instr.isNone && s.plat.endAddress == some s.pc

/-- How a run of the model ends (R441). -/
inductive RunEnd where
  /-- the step budget is exhausted -/
  | stepBudget (reached : State)
  /-- LOC reached the end address -/
  | endAddress (reached : State)
  /-- a step ended in InternalInterrupt, UnassignedEncoding, TransferError or AwaitingNMI -/
  | fault (f : Fault)
  /-- the launch state or a step was refused -/
  | refused (r : Refusal)
  deriving DecidableEq, Repr

/-- At most `n` steps. The end address is looked for before each step and after the last (log 38). -/
def runSteps : Nat → State → RunEnd
  | 0, s => if s.atEnd then .endAddress s else .stepBudget s
  | n + 1, s =>
    if s.atEnd then .endAddress s
    else
      match step s with
      | .next t => runSteps n t
      | .fault f => .fault f
      | .refused r => .refused r

/-- A run from a launch state, within the platform's step budget (R421, R441, D24). -/
def run (alternative : Bool) (s : State) : RunEnd :=
  match s.launch alternative with
  | .next t => runSteps t.plat.stepBudget t
  | .fault f => .fault f
  | .refused r => .refused r

end Sys2Proof.Machine
end

