-- ==== Sys2Proof/Safety.lean ====
section
/-! DEFINITION. The terms that claims about the machine are written in: which transfers go through, what stands at a place, what an
instruction leaves unchanged, the invariant of the state, and a safe run. -/

namespace Sys2Proof.Machine

/-! ### Transfers and places -/

/-- A transfer at an address goes through (R98, R384). -/
def State.reaches (s : State) (sp : Space) (a : Word) : Prop := transferFailure s.plat sp a = none

/-- The word at a place can be read and written. -/
def State.placeReaches (s : State) : Loc → Prop
  | .reg _ => True
  | .data a => s.reaches (.abs s.dataPage) a

/-- The word of a page of absolute memory. -/
def State.word (s : State) (p : Byte) (a : Word) : Word := s.mem.readWord (wordIndex p a)

/-- The value at a place. -/
def State.valueAt (s : State) : Loc → Word
  | .reg r => s.reg r
  | .data a => s.word s.dataPage a

/-- The state with a word of a page of absolute memory replaced. -/
def State.putWord (s : State) (p : Byte) (a v : Word) : State := { s with mem := s.mem.writeWord (wordIndex p a) v }

/-- The word of the own data page at an address (R85). -/
abbrev State.data (s : State) (a : Word) : Word := s.word s.dataPage a

/-- A transfer with the own data page at an address goes through. -/
abbrev State.dataReaches (s : State) (a : Word) : Prop := s.reaches (.abs s.dataPage) a

/-- The byte at a byte address of a page (R90). -/
def State.byteAt (s : State) (p : Byte) (ba : Nat) : Byte :=
  if ba % 2 = 0 then lowByte (s.word p (byteWord ba)) else highByte (s.word p (byteWord ba))

/-- Where a byte address of a page stands in memory. -/
def byteIndex (p : Byte) (ba : Nat) : Nat := 2 * wordIndex p (byteWord ba) + ba % 2

/-- The state with the byte at a byte address of a page replaced (R90). -/
def State.putByte (s : State) (p : Byte) (ba : Nat) (v : Byte) : State :=
  { s with mem := s.mem.writeByte (byteIndex p ba) v }

/-- The state with the value at a place replaced. -/
def State.putAt (s : State) (l : Loc) (v : Word) : State :=
  match l with
  | .reg r => s.setReg r v
  | .data a => s.putWord s.dataPage a v

/-- The words of memory that a place takes: none for a register. -/
def State.placeWords (s : State) : Loc → List Nat
  | .reg _ => []
  | .data a => [wordIndex s.dataPage a]

/-- Memory after `n` words are copied one at a time, word `k` from index `src k` to index `dst k` (R187, R353). -/
def copiedWords (src dst : Nat → Nat) : Nat → Memory → Memory
  | 0, m => m
  | n + 1, m => (copiedWords src dst n m).writeWord (dst n) ((copiedWords src dst n m).readWord (src n))

/-- Memory after `n` bytes are copied one at a time. -/
def copiedBytes (src dst : Nat → Nat) : Nat → Memory → Memory
  | 0, m => m
  | n + 1, m => (copiedBytes src dst n m).writeByte (dst n) ((copiedBytes src dst n m).readByte (src n))

/-! ### The units of a block move -/

/-- One word of a block move: the word, the two pointers, the count (R353, R355 to R357). -/
def wordMoved (src dst : State → Byte × Word) (f1 f2 c : RegNum) (s : State) : State :=
  (((s.putWord (dst s).1 (dst s).2 (s.word (src s).1 (src s).2)).incrWord f1).incrWord f2).decrement c

/-- One byte of a block move: the byte, the two pointers, the count (R353, R358 to R360). -/
def byteMoved (src dst : State → Byte × Nat) (f1 f2 c : RegNum) (s : State) : State :=
  (((s.putByte (dst s).1 (dst s).2 (s.byteAt (src s).1 (src s).2)).incrByte f1).incrByte f2).decrement c

/-- A byte operand as the page and the word address of its transfer (R90). -/
def inWord (place : State → Byte × Nat) (s : State) : Byte × Word := ((place s).1, byteWord (place s).2)

/-- How the transfers of one unit of a block move end, the read of the source before the write of the destination: none where both go through
(R353, R354). -/
def unitFailure (src dst : State → Byte × Word) (s : State) : Option TransferKind :=
  (transferFailure s.plat (.abs (src s).1) (src s).2).or (transferFailure s.plat (.abs (dst s).1) (dst s).2)

/-- The count register is not 0 at the start of any of the units 0 to `m` of a block move (R353). -/
def CountLasts (unit : State → State) (c : RegNum) (s : State) (m : Nat) : Prop := ∀ j ≤ m, (unit^[j] s).reg c ≠ 0

/-! ### Devices -/

/-- A device answers the transfer: it goes through, and the first answer waiting is a word. -/
def State.deviceAnswers (s : State) (k : IoKind) (dev v : Word) : Prop :=
  s.reaches .io dev ∧ (takeReply k dev s.ioReplies).1 = .answered v

/-- The state in which the answer of a transfer is used up and the transfer is in the trace. -/
def State.transferred (s : State) (k : IoKind) (dev : Word) (e : Event) : State :=
  { s with ioReplies := (takeReply k dev s.ioReplies).2, trace := e :: s.trace }

/-! ### What is unchanged -/

/-- Everything but the general registers, LOC, MOD, MODIFIED, the PSW, absolute memory and the count of free values is unchanged:
BASE, PROG, TIMER, BOUND, LEVEL, UMAP, SPM, the cache enable, semaphore blocking, the word of an XCU, the NMI wait, map memory,
the devices' answers, the output trace and the platform. -/
def SpecialsKept (s t : State) : Prop :=
  { t with x := s.x, pc := s.pc, mod := s.mod, modified := s.modified, psw := s.psw, mem := s.mem, freeCtr := s.freeCtr } = s

/-- Every general register is unchanged. -/
def RegsKept (s t : State) : Prop := ∀ q, t.reg q = s.reg q

/-- One register has a value, every other is unchanged. -/
def RegSet (s t : State) (r : RegNum) (v : Word) : Prop := ∀ q, t.reg q = if q = r then v else s.reg q

/-- Every byte of absolute memory reads as before. -/
def MemKept (s t : State) : Prop := ∀ b, t.mem.readByte b = s.mem.readByte b

/-- Every byte of absolute memory outside some words reads as before. A word is given by its index (R80, R90). -/
def MemKeptOutside (s t : State) (words : List Nat) : Prop := ∀ b, b / 2 ∉ words → t.mem.readByte b = s.mem.readByte b

/-- One word of a page has a value, every byte of memory outside it reads as before. -/
def WordSet (s t : State) (p : Byte) (a v : Word) : Prop := t.word p a = v ∧ MemKeptOutside s t [wordIndex p a]

/-- The place has a value, every other register and every other byte of memory is unchanged. -/
def PlaceSet (s t : State) (l : Loc) (v : Word) : Prop :=
  match l with
  | .reg r => RegSet s t r v ∧ MemKept s t
  | .data a => RegsKept s t ∧ WordSet s t s.dataPage a v

/-- The PSW and the count of free values are unchanged. -/
def PswKept (s t : State) : Prop := t.psw = s.psw ∧ t.freeCtr = s.freeCtr

/-- The instruction ended `n` locations on with the modification cleared (R19, R34). -/
def EndsAfter (s t : State) (n : Word) : Prop := t.pc = s.pc + n ∧ t.mod = 0 ∧ t.modified = false

/-- The instruction ended at a location with the modification cleared. -/
def EndsAt (t : State) (a : Word) : Prop := t.pc = a ∧ t.mod = 0 ∧ t.modified = false

/-- The state of an execution that answers a next state. -/
def Answers (i : Instr) (s : State) (post : State → Prop) : Prop := ∃ t, exec i s = .next t ∧ post t

/-- The whole effect of an instruction that puts one value at one place and goes on to the next location, changing no flag. -/
def Writes (i : Instr) (s : State) (l : Loc) (v : Word) : Prop :=
  Answers i s fun t => PlaceSet s t l v ∧ PswKept s t ∧ SpecialsKept s t ∧ EndsAfter s t 1

/-- Registers, memory, PSW and everything that `SpecialsKept` names are those of `u`: only LOC, MOD and MODIFIED may differ. -/
def SameAs (u t : State) : Prop := RegsKept u t ∧ MemKept u t ∧ PswKept u t ∧ SpecialsKept u t

/-- MOD and MODIFIED are unchanged. -/
def ModificationKept (s t : State) : Prop := t.mod = s.mod ∧ t.modified = s.modified

/-- Two places have a value each, the second the last written where they are one place; every other register and every other byte
of memory is unchanged. -/
def TwoSet (s t : State) (l1 : Loc) (v1 : Word) (l2 : Loc) (v2 : Word) : Prop :=
  (∀ l, t.valueAt l = if l = l2 then v2 else if l = l1 then v1 else s.valueAt l) ∧
    MemKeptOutside s t (s.placeWords l1 ++ s.placeWords l2)

/-- One byte of a page has a value, every other byte of memory reads as before. -/
def ByteSet (s t : State) (p : Byte) (ba : Nat) (v : Byte) : Prop :=
  t.byteAt p ba = v ∧ ∀ b, b ≠ byteIndex p ba → t.mem.readByte b = s.mem.readByte b

/-- Words of a page, given by address and value, are set; every byte of memory outside them reads as before. -/
def WordsSet (s t : State) (p : Byte) (ws : List (Word × Word)) : Prop :=
  (∀ w ∈ ws, t.word p w.1 = w.2) ∧ MemKeptOutside s t (ws.map fun w => wordIndex p w.1)

/-- The given PSW bits have the given values, every other PSW bit and the count of free values is unchanged. -/
def PswChanged (s t : State) (bs : List (Nat × Bool)) : Prop :=
  (∀ b ∈ bs, t.psw.getLsbD b.1 = b.2) ∧ (∀ i, i ∉ bs.map Prod.fst → t.psw.getLsbD i = s.psw.getLsbD i) ∧ t.freeCtr = s.freeCtr

/-- C and V have the given values, every PSW bit outside the arithmetic flags is unchanged; F2 and F3 are free (R44). -/
def FlagsSet (s t : State) (c v : Bool) : Prop :=
  t.carry = c ∧ t.overflow = v ∧ ∀ i, i < 4 ∨ 7 < i → t.psw.getLsbD i = s.psw.getLsbD i

/-- A word differs from another in one bit at most, which has the given value (R290). -/
def BitChanged (w r : Word) (n : Nat) (b : Bool) : Prop := ∀ i, i < 16 → r.getLsbD i = if i = n then b else w.getLsbD i

/-- The whole effect of a modify instruction with operand value `v` (R170). -/
def Modifies (i : Instr) (s : State) (v : Word) : Prop :=
  Answers i s fun t => t.mod = s.mod + v ∧ t.modified = true ∧ t.pc = s.pc + 1 ∧ SameAs s t

/-- The whole effect of an instruction that puts a value at each of two places and goes on, changing no flag. -/
def WritesBoth (i : Instr) (s : State) (l1 : Loc) (v1 : Word) (l2 : Loc) (v2 : Word) : Prop :=
  Answers i s fun t => TwoSet s t l1 v1 l2 v2 ∧ PswKept s t ∧ SpecialsKept s t ∧ EndsAfter s t 1

/-- The whole effect of an instruction that sets or clears bit `n` of a place and goes on, changing no flag. -/
def WritesBit (i : Instr) (s : State) (l : Loc) (n : Nat) (b : Bool) : Prop := ∃ r, BitChanged (s.valueAt l) r n b ∧ Writes i s l r

/-- The whole effect of an instruction that puts a value at a place, sets C and V and goes on (R44, R215). -/
def WritesWithFlags (i : Instr) (s : State) (l : Loc) (r : Word) (c v : Bool) : Prop :=
  Answers i s fun t => PlaceSet s t l r ∧ FlagsSet s t c v ∧ SpecialsKept s t ∧ EndsAfter s t 1

/-- The whole effect of a jump that changes nothing but LOC and the modification. -/
def Jumps (i : Instr) (s : State) (a : Word) : Prop := Answers i s fun t => SameAs s t ∧ EndsAt t a

/-- The whole effect of a skip: one location on, or two or three where the condition holds (R250). -/
def Skips (i : Instr) (s : State) (cond : Prop) (pair : Bool) : Prop :=
  Answers i s fun t => SameAs s t ∧ (cond → EndsAfter s t (if pair then 3 else 2)) ∧ (¬ cond → EndsAfter s t 1)

/-- The whole effect of an instruction that saves nothing and ends as the state `u` does, one location on. -/
def Becomes (i : Instr) (s u : State) : Prop := Answers i s fun t => SameAs u t ∧ EndsAfter s t 1

/-- The end of an alternative instruction `n` locations on: the modification and PSW bit 12 cleared, no other PSW bit changed (R350). -/
def AltEnds (s t : State) (n : Word) : Prop := PswChanged s t [(12, false)] ∧ EndsAfter s t n

end Sys2Proof.Machine

namespace Sys2Proof

/-! ### Groups of instructions -/

/-- LDP and LDN, which load a whole process (R322, R323). -/
def Instr.loadsProcess : Instr → Bool
  | .ldnR _ | .ldnM _ | .ldpR _ | .ldpM _ => true
  | _ => false

/-- LDS and SLS (R311, R312). -/
def Instr.loadsStatus : Instr → Bool
  | .ldsR _ | .ldsM _ | .slsR _ | .slsM _ => true
  | _ => false

/-- LDT (R315). -/
def Instr.loadsTimer : Instr → Bool
  | .ldtR _ | .ldtM _ => true
  | _ => false

/-- The instructions that change LEVEL, but for LDP and LDN: LDL, MON, RTM, RTMI, JPZI, RPZ (R53). -/
def Instr.changesLevel : Instr → Bool
  | .ldlR _ | .ldlM _ | .mon _ | .rtm _ _ | .rtmi _ | .jpzi _ | .rpz _ _ => true
  | _ => false

/-- The instructions that change BOUND, but for LDP and LDN: LBR, MON, RTM, RTMI (R52). -/
def Instr.changesBound : Instr → Bool
  | .lbr | .mon _ | .rtm _ _ | .rtmi _ => true
  | _ => false

/-- WSP (R55). -/
def Instr.writesSystemMap : Instr → Bool
  | .wspR _ | .wspX _ => true
  | _ => false

/-- MWR (R88). -/
def Instr.writesMapMemory : Instr → Bool
  | .mwrR _ _ | .mwrX _ _ => true
  | _ => false

/-- The five instructions with SET CONDITION CODES, and TST (R44, R45). -/
def Instr.setsFlags : Instr → Bool
  | .addcC8R _ _ | .addcCn8R _ _ | .addRR _ _ _ _ | .addB6R _ _ _ | .addRB6 _ _ _ | .adduRR _ _ _ _ | .subRR _ _ _ _ | .subuRR _ _ _ _
  | .tst => true
  | _ => false

/-- The instructions that do not clear the modification: the modify instructions, RELS, RESS, JON, JOZ (R38). -/
def Instr.keepsModification : Instr → Bool
  | .modcC8 _ | .modcCn8 _ | .mod4C8 _ | .mod4Cn8 _ | .mod8 _ | .modB6 _ _ | .modnB6 _ _ | .modB8 _ | .modnB8 _ | .modP8 _ | .modnP8 _
  | .modR _ | .modnR _ | .modX _ | .modnX _ | .rels _ _ | .ress _ _ | .jonRL4 _ _ | .jonRLn4 _ _ | .jonXL4 _ _ | .jonXLn4 _ _
  | .jozRL4 _ _ | .jozRLn4 _ _ | .jozXL4 _ _ | .jozXLn4 _ _ => true
  | _ => false

/-- The block moves (R355 to R360). -/
def Instr.isBlockMove : Instr → Bool
  | .aamow _ _ _ | .lamow _ _ _ | .almow _ _ _ | .aamob _ _ _ | .lamob _ _ _ | .almob _ _ _ => true
  | _ => false

end Sys2Proof

namespace Sys2Proof.Machine

/-! ### The invariant -/

/-- What holds between instructions whatever the program. -/
structure Invariant (s : State) : Prop where
  /-- memory is in its canonical form -/
  memory : s.mem.wf = true
  /-- and map memory -/
  mapMemory : s.mapMem.wf = true
  /-- MODIFIED false implies MOD = 0 (R38) -/
  unmodified : s.modified = false → s.mod = 0
  /-- semaphore blocking is clear between instructions (R57) -/
  blockingClear : s.semBlock = false
  /-- a word of XCU waits unmodified, and in the standard set (R324) -/
  executeStandard : s.instr.isSome = true → s.alt = false ∧ s.modified = false

/-! ### Runs -/

/-- A run that ends by its step budget or at its end address (R441). -/
def RunEnd.safe : RunEnd → Bool
  | .stepBudget _ | .endAddress _ => true
  | .fault _ | .refused _ => false

/-- A safe run: whatever the step budget, no step before the end address faults or is refused. -/
def SafeRun (s : State) : Prop := ∀ n, (runSteps n s).safe = true

end Sys2Proof.Machine
end

