-- ==== Sys2Proof/Machine/Transfers.lean ====
section
/-! DEFINITION. The transfers that an instruction makes, in the order of R108 and of each rule, and how the first of them fails: the terms of
the statement that a failing transfer is a transfer error (R384). No meaning uses them. A transfer that can fail only where one before it
fails, such as the write of a word that was read, is not listed. -/

namespace Sys2Proof.Machine

/-- One transfer of an instruction (R98). -/
inductive Transfer where
  /-- a word of a space; absolute memory is as it was until the next transfer of the list -/
  | word (sp : Space) (a : Word)
  /-- a word stored in absolute memory, which another transfer follows -/
  | store (p : Byte) (a v : Word)
  /-- the read of ARED, which no parity error stops (R372, R387) -/
  | uncorrected (p : Byte) (a : Word)
  /-- a word to or from a device (R300) -/
  | device (k : IoKind) (dev : Word)
  deriving DecidableEq, Repr

/-- How a transfer fails in a state: the kind of the failure, the space and the address (R98, R384). -/
def Transfer.failure (s : State) : Transfer → Option (TransferKind × Space × Word)
  | .word sp a => (transferFailure s.plat sp a).map fun k => (k, sp, a)
  | .store p a _ => (transferFailure s.plat (.abs p) a).map fun k => (k, .abs p, a)
  | .uncorrected p a => if transferFailure s.plat (.abs p) a = some .timeOut then some (.timeOut, .abs p, a) else none
  | .device k dev =>
    match transferFailure s.plat .io dev, (takeReply k dev s.ioReplies).1 with
    | some f, _ => some (f, .io, dev)
    | none, .failed f => some (f, .io, dev)
    | none, .answered _ => none

/-- The first failure of some transfers. -/
def State.firstFailure (s : State) (ts : List Transfer) : Option (TransferKind × Space × Word) := ts.findSome? (Transfer.failure s)

/-- Absolute memory after a transfer that goes through. -/
def Transfer.applied (m : Memory) : Transfer → Memory
  | .store p a v => m.writeWord (wordIndex p a) v
  | _ => m

/-- Absolute memory at the first failure of some transfers: what was stored before remains (R384). -/
def State.memoryAtFailure (s : State) (ts : List Transfer) : Memory :=
  (ts.takeWhile fun x => (x.failure s).isNone).foldl Transfer.applied s.mem

/-! ### Transfers of the operand forms -/

/-- A word of the own data page (R85). -/
def State.dataWord (s : State) (a : Word) : Transfer := .word (.abs s.dataPage) a

/-- A word of the current program page (R83). -/
def State.progWord (s : State) (a : Word) : Transfer := .word (.abs s.progCur) a

/-- A place: none for a register. -/
def State.place (s : State) : Loc → List Transfer
  | .reg _ => []
  | .data a => [s.dataWord a]

/-- An operand. -/
def State.operand (s : State) (o : Operand) : List Transfer := s.place (o.loc s)

/-- `n` words of a page from an address on, ascending. -/
def ascending (p : Byte) (a : Word) (n : Nat) : List Transfer := (List.range n).map fun k => .word (.abs p) (a + BitVec.ofNat 16 k)

/-! ### Transfers of the instructions with more than an operand -/

/-- MOVM: the read and the write of each word in turn (R187). -/
def State.moveTransfers (s : State) (f1 f2 : RegNum) : List Transfer :=
  let e : Nat := if f1 = f2 then 2 else 1
  let src := fun k : Nat => s.base + s.reg f1 + BitVec.ofNat 16 (e * k)
  let dst := fun k : Nat => s.base + s.reg f2 + BitVec.ofNat 16 (e * k)
  let index := fun (a : Nat → Word) k => wordIndex s.dataPage (a k)
  (List.range (1 + (s.mod - 1).toNat % 16)).flatMap fun k =>
    [s.dataWord (src k), .store s.dataPage (dst k) ((copiedWords (index src) (index dst) k s.mem).readWord (index src k))]

/-- STC C4: registers 15-C4 down to 0 at descending addresses, register 7 as it then is (R190). None where it is refused. -/
def State.stackTransfers (s : State) (c : BitVec 4) : List Transfer :=
  if c < 8 then []
  else
    let n := 16 - c.toNat
    (List.range n).reverse.map fun k =>
      .store s.dataPage (s.base + (s.reg 7 - BitVec.ofNat 16 n + BitVec.ofNat 16 k) + s.mod)
        (if k = 7 then s.reg 7 - 1 else s.reg (BitVec.ofNat 3 k))

/-- The stores of a process save: 0 to 13, then -2, then -1 where the level counter is 0 (R108, R318, R330). -/
def State.saveTransfers (s : State) (p : Byte) (d cont : Word) : List Transfer :=
  let at' := fun (n : Nat) (v : Word) => Transfer.store p (d + BitVec.ofNat 16 n) v
  [at' 0 (s.reg 0), at' 1 (s.reg 1), at' 2 (s.reg 2), at' 3 (s.reg 3), at' 4 (s.reg 4), at' 5 (s.reg 5), at' 6 (s.reg 6), at' 7 (s.reg 7),
    at' 8 s.base, at' 9 s.umap, at' 10 s.prog, at' 11 cont, at' 12 s.timer, at' 13 s.psw, .store p (d - 2) s.level] ++
  if s.level.toNat % 32768 = 0 then [.store p (d - 1) s.bound] else []

/-- The reads of a process load: -2, then -1 where the level counter read is 0, then 0 to 13 (R108, R322). -/
def State.loadTransfers (s : State) (p : Byte) (d : Word) : List Transfer :=
  [.word (.abs p) (d - 2)] ++ (if (s.word p (d - 2)).toNat % 32768 = 0 then [.word (.abs p) (d - 1)] else []) ++ ascending p d 14

/-- LDN: the descriptor's address and page, then the descriptor (R322). -/
def State.unlinkedTransfers (s : State) (l : Loc) : List Transfer :=
  s.place l ++ s.place l.succ ++ s.loadTransfers (lowByte (s.valueAt l.succ)) (s.valueAt l)

/-- LDP: then words 14 and 15 of the new BASE in the new data page (R323). -/
def State.linkedTransfers (s : State) (l : Loc) : List Transfer :=
  let m := fun n : Word => s.word (lowByte (s.valueAt l.succ)) (s.valueAt l + n)
  s.unlinkedTransfers l ++ [.store (lowByte (m 9)) (m 8 + 14) s.base, .word (.abs (lowByte (m 9))) (m 8 + 15)]

/-- The return from a monitor call: BOUND where the level counter is then 0 (R327). -/
def State.returnTransfers (s : State) : List Transfer := if (s.level - 1).toNat % 32768 = 0 then [s.dataWord (s.base - 1)] else []

/-- NMI: the descriptor reference, then the save with words 16 and 17 (R330). -/
def State.nmiTransfers (s : State) : List Transfer :=
  let r : Word := 0xFFE0 + 2 * zext s.plat.cpuNumber
  let d := s.word 0xFF r
  let p := lowByte (s.word 0xFF (r + 1))
  [.word (.abs 0xFF) r, .word (.abs 0xFF) (r + 1)] ++ s.saveTransfers p d (s.pc + 1) ++
    [.store p (d + 16) (zext s.spm), .word (.abs p) (d + 17)]

end Sys2Proof.Machine

namespace Sys2Proof

open Machine

/-- The transfers of an instruction whose failing is a transfer error (R384, log 29), in order. None for a form with registers only, for a
form that is refused or trapped before it transfers anything, and for the instructions that have an error exit (R354). -/
def Instr.transfers (s : State) : Instr → List Transfer
  -- modify
  | .modcC8 .. | .modcCn8 .. | .mod4C8 .. | .mod4Cn8 .. | .mod8 .. | .modR .. | .modnR .. => []
  | .modB6 x d | .modnB6 x d => [s.dataWord (s.base + s.reg (indexReg x) + zext d)]
  | .modB8 k | .modnB8 k => [s.dataWord (s.base + zext k)]
  | .modP8 k | .modnP8 k => [s.progWord (s.prog + zext k)]
  | .modX r | .modnX r => s.operand (.x3 r)
  -- move
  | .movcC8R .. | .movcCn8R .. => []
  | .movcC4X r _ | .movcCn4X r _ => s.operand (.x3 r)
  | .movB8R k _ | .movRB8 k _ => s.operand (.b8 k)
  | .movB6R x d _ | .movRB6 x d _ => s.operand (.b6x2 x d)
  | .movR a _ f2 => s.operand (op2 a f2)
  | .movX a f1 f2 => s.operand (.x3 f1) ++ s.operand (op2 a f2)
  | .movP8R k _ => [s.progWord (s.prog + zext k + s.mod)]
  | .mvp x d _ => [s.progWord (s.prog + s.reg (indexReg x) + zext d + s.mod)]
  | .mmp f1 _ => [.word (.abs (if s.level = 1 ∨ s.level = 0x8000 then s.progUser else s.progSys)) (s.prog + s.reg f1 + s.mod)]
  | .movbLoad x d _ | .movbStore x d _ =>
    [s.dataWord (byteWord ((2 * s.base.toNat + (s.reg (indexReg x)).toNat + d.toNat + 2 * s.mod.toNat) % 131072))]
  | .movlLoad x d _ => let a := s.base + s.reg (indexReg x) + zext d; [s.dataWord a, s.dataWord (a + 1)]
  | .movlStore x d q =>
    let a := s.base + s.reg (indexReg x) + zext d + s.mod
    [.store s.dataPage a (s.reg (lowReg q)), s.dataWord (a + 1)]
  | .movm f1 f2 => s.moveTransfers f1 f2
  | .putR _ f2 => s.operand (.x3 f2)
  | .putX f1 f2 => s.operand (.x3 f1) ++ s.operand (.x3 f2)
  | .xchR _ b f2 => s.operand (op2 b f2)
  | .xchX f1 b f2 => s.operand (op2 b f2) ++ s.operand (.x3 f1)
  | .stcRM _ f2 => [s.dataWord (s.base + (s.reg f2 + 1) + s.mod)]
  | .stcXM f1 f2 => [s.dataWord (s.base + if f1 = f2 then s.reg f2 + 1 else s.reg f1), s.dataWord (s.base + (s.reg f2 + 1) + s.mod)]
  | .stcC4 c => s.stackTransfers c
  | .unsRM _ f2 => s.operand (.b0x3 f2)
  | .unsXM f1 f2 => s.operand (.b0x3 f2) ++ s.operand (.x3 f1)
  | .unsC4 c => if c < 8 then [] else ascending s.dataPage (s.base + s.reg 7 + s.mod) (16 - c.toNat)
  -- jump
  | .jmpL8 .. | .jmpLn8 .. | .jmpL10 .. | .jmpLn10 .. | .jmpS2L8 .. | .jmpS2Ln8 .. | .jmpP6 .. | .rpz .. | .sob .. | .jvnL4 .. | .jvnLn4 ..
  | .jonRL4 .. | .jonRLn4 .. | .jozRL4 .. | .jozRLn4 .. => []
  | .jmpiB6 x d => s.operand (.b6x2 x d)
  | .jmpiB8 k => s.operand (.b8 k)
  | .jmpiP8 k | .jmpiS2P8 k _ => [s.progWord (s.prog + zext k + s.mod)]
  | .jpzi k => [.word (.abs s.progUser) (s.prog + zext k + s.mod)]
  | .jonXL4 r _ | .jonXLn4 r _ | .jozXL4 r _ | .jozXLn4 r _ => if s.modified then [] else s.operand (.x3 r)
  -- arithmetic and logic
  | .addcC8R .. | .addcCn8R .. | .incdRR .. | .decdRR .. | .invR .. | .negR .. | .swpR .. | .dicpR .. | .ddcpR .. | .xtrRC .. => []
  | .addRR a f1 b f2 | .adduRR a f1 b f2 | .subRR a f1 b f2 | .subuRR a f1 b f2 | .andRR a f1 b f2 | .iorRR a f1 b f2 =>
    s.operand (op1 a f1) ++ s.operand (op2 b f2)
  | .addRB6 x d _ | .addB6R x d _ | .clr x d | .dec x d | .inc x d => s.operand (.b6x2 x d)
  | .xor a f1 _ | .div a f1 _ => s.operand (op1 a f1)
  | .mul a f1 f2 =>
    let e := s.base + s.reg f2 + s.mod
    s.operand (op1 a f1) ++ [s.dataWord e, .store s.dataPage e (s.valueAt ((op1 a f1).loc s) * s.data e), s.dataWord (e + 1)]
  | .incdXM f1 f2 | .decdXM f1 f2 => s.operand (.x3 f1) ++ s.operand (.b0x3 f2)
  | .dicpM r => let a := s.base + s.reg r + s.mod; [s.dataWord a, .store s.dataPage a (s.data a + 2), s.dataWord (a + 1)]
  | .ddcpM r => let a := s.base + s.reg r + s.mod; [s.dataWord a, .store s.dataPage a (s.data a - 2), s.dataWord (a + 1)]
  | .invM r | .negM r | .swpM r => s.operand (.b0x3 r)
  | .sxt r _ | .xtrXC r _ => s.operand (.x3 r)
  -- skip
  | .sltpRC .. | .sgepRC .. | .slopRC .. | .shspRC .. | .sltRC .. | .sgeRC .. | .sloRC .. | .shsRC .. | .snepRCn .. | .snepRC ..
  | .seqpRCn .. | .seqpRC .. | .sneRCn .. | .sneRC .. | .seqRCn .. | .seqRC .. | .sbnRC .. | .sbzRC .. | .sbnpRC .. | .sbzpRC .. => []
  | .sltpXC r _ | .sgepXC r _ | .slopXC r _ | .shspXC r _ | .sltXC r _ | .sgeXC r _ | .sloXC r _ | .shsXC r _ | .snepXCn r _ | .snepXC r _
  | .seqpXCn r _ | .seqpXC r _ | .sneXCn r _ | .sneXC r _ | .seqXCn r _ | .seqXC r _ | .sbnXC r _ | .sbzXC r _ | .sbnpXC r _ | .sbzpXC r _ =>
    s.operand (.x3 r)
  | .sozp x d | .sonp x d | .soz x d | .son x d => s.operand (.b6x2 x d)
  | .sltpRR a f1 b f2 | .slopRR a f1 b f2 | .sgepRR a f1 b f2 | .shspRR a f1 b f2 | .snepRR a f1 b f2 | .seqpRR a f1 b f2
  | .sltRR a f1 b f2 | .sloRR a f1 b f2 | .sgeRR a f1 b f2 | .shsRR a f1 b f2 | .sneRR a f1 b f2 | .seqRR a f1 b f2 =>
    s.operand (op1 a f1) ++ s.operand (op2 b f2)
  -- shift
  | .srlRC .. | .sraRC .. | .sllRC .. | .slcRC .. | .srllRC .. | .slllRC .. => []
  | .srlXC r _ | .sraXC r _ | .sllXC r _ | .slcXC r _ => s.operand (.x3 r)
  | .srllXC r _ | .slllXC r _ => ascending s.dataPage (s.base + s.reg r) 2
  -- single bit
  | .setsRC .. => []
  | .setsXC r _ | .rels r _ | .ress r _ => s.operand (.x3 r)
  | .setsR _ b f2 | .clrsR _ b f2 => s.operand (op2 b f2)
  | .setsX f1 b f2 | .clrsX f1 b f2 => s.operand (op2 b f2) ++ s.operand (.x3 f1)
  -- input and output
  | .sioR f1 _ => [.device .sio (s.reg f1 + s.mod)]
  | .rioR f1 _ => [.device .rio (s.reg f1 + s.mod)]
  | .cioR f1 _ => [.device .cio (s.reg f1 + s.mod)]
  | .wioR f1 _ => [.device .wio (s.reg f1 + s.mod)]
  | .sioX f1 f2 => .device .sio (s.reg f1 + s.mod) :: s.operand (.x3 f2)
  | .rioX f1 f2 => .device .rio (s.reg f1 + s.mod) :: s.operand (.x3 f2)
  | .cioX f1 f2 => s.operand (.x3 f2) ++ [.device .cio (s.reg f1 + s.mod)]
  | .wioX f1 f2 => s.operand (.x3 f2) ++ [.device .wio (s.reg f1 + s.mod)]
  -- special
  | .svsR .. | .sssR .. | .svtR .. | .svlR .. | .ldsR .. | .slsR .. | .ldtR .. | .ldlR .. | .cpuR .. | .ldm .. | .alt | .cae | .cad | .tst
  | .trp .. => []
  | .svsM r | .sssM r | .svtM r | .svlM r | .ldsM r | .slsM r | .ldtM r | .ldlM r | .cpuM r => s.operand (.b0x3 r)
  | .lbr => [s.dataWord (s.base - 1)]
  | .svp c => s.saveTransfers s.dataPage s.base (s.pc + 1 + zext c)
  | .ldnR r => s.unlinkedTransfers (.reg r)
  | .ldnM r => s.unlinkedTransfers (.data (s.base + s.reg r + s.mod))
  | .ldpR r => s.linkedTransfers (.reg r)
  | .ldpM r => s.linkedTransfers (.data (s.base + s.reg r + s.mod))
  | .xcu r => s.operand (.x3 r)
  | .xcui r => let a := s.base + s.reg r + s.mod; [s.dataWord a, s.dataWord (s.base + s.data a)]
  | .mon k => if k.toNat < 64 then [] else [.word (.abs (progPage s.plat false (s.level + 1) s.umap s.spm)) (zext k)]
  | .rtm .. => s.returnTransfers
  | .rtmi d => s.dataWord (s.base + zext d + s.mod) :: s.returnTransfers
  | .nmi => s.nmiTransfers
  -- the alternative set: with an error exit
  | .aamow .. | .lamow .. | .almow .. | .aamob .. | .lamob .. | .almob .. | .amowLoad .. | .amowStore .. | .amobLoad .. | .amobStore ..
  | .aress .. | .arels .. | .drdR .. | .drdX .. | .dwrR .. | .dwrX .. => []
  -- and without one
  | .mrdR _ f2 | .mwrR _ f2 => if s.plat.cpu = .type8 then [] else [.word .mapMem (s.reg f2 + s.mod)]
  | .mrdX f1 f2 => if s.plat.cpu = .type8 then [] else .word .mapMem (s.reg f2 + s.mod) :: s.operand (.x3 f1)
  | .mwrX f1 f2 => if s.plat.cpu = .type8 then [] else s.operand (.x3 f1) ++ [.word .mapMem (s.reg f2 + s.mod)]
  | .rspR .. | .wspR .. => []
  | .rspX r | .wspX r => s.operand (.x3 r)
  | .arsc f1 _ => [.word (.abs (lowByte (s.reg (f1 + 1)))) (s.reg f1)]
  | .ared f1 _ => [.uncorrected (lowByte (s.reg (f1 + 1))) (s.reg f1)]

end Sys2Proof
end

