-- ==== Sys2Proof/WellFormed.lean ====
section
/-! DEFINITION. Well-formed instructions: those that a word of a program can stand for, and whose operands exist. -/

namespace Sys2Proof

/-- The registers that a form names exist: STC C4 and UNS C4 name registers 15-C4 down to 0, of which there are 8 (R30, R190, R191, D30). -/
def Instr.registersExist : Instr → Bool
  | .stcC4 c => decide (8 ≤ c)
  | .unsC4 c => decide (8 ≤ c)
  | _ => true

/-- An instruction is well-formed on a CPU type: the type has it, and its registers exist. -/
def Instr.wellFormed (cpu : CpuType) (i : Instr) : Bool := i.existsOn cpu && i.registersExist

end Sys2Proof
end

