-- ==== Sys2Proof/Certificates/Slice0/Obligations.lean ====
section
/-! DEFINITION. The statements for the provers. The words they are made of are in Sys2Proof/Safety.lean and
Sys2Proof/Machine/Transfers.lean. A statement of an instruction
says that `exec` answers a next state, what that state holds, and that nothing else changes. -/

open Sys2Proof Sys2Proof.Machine

/-! ### Encoding -/

/-- Decoding the word of an instruction gives the instruction, on every CPU type that decodes it (every well-formed instruction is
decoded: WellFormed.lean), with every operand at every value (R122, R123, R139, R147 to R152). -/
def Obligations.DecodeOfEncode : Prop :=
  ∀ (cpu : CpuType) (i : Instr), i.wellFormed cpu = true ∨ i.decodesOn cpu = true →
    decodeFor cpu i.isAlternative (encode i) = some i

/-- A word that decodes to an instruction is that instruction's word: a word has one meaning in each set (R139, R150). -/
def Obligations.EncodeOfDecode : Prop :=
  ∀ (cpu : CpuType) (alternative : Bool) (w : Word) (i : Instr), decodeFor cpu alternative w = some i →
    i.isAlternative = alternative ∧ i.decodesOn cpu = true ∧ encode i = w

/-- Words that the rules write out, one or more of each family, decode to the instructions that they write them out for. -/
def Obligations.WordsOfTheRulesDecode : Prop :=
  decodeFor .type8 false 0x05E4 = some (.modcC8 5) ∧
  decodeFor .type8 false 0x0548 = some (.movcC8R 5 0) ∧
  decodeFor .type8 false 0x4219 = some (.movB6R 1 2 1) ∧
  decodeFor .type8 false 0x03DD = some (.jmpS2L8 3 .s4) ∧
  decodeFor .type8 false 0x268A = some (.addRR false 2 false 6) ∧
  decodeFor .type8 false 0x117E = some (.seqRCn 1 1) ∧
  decodeFor .type8 false 0x94A2 = some (.slcRC 1 4) ∧
  decodeFor .type8 false 0x5211 = some (.rels 5 2) ∧
  decodeFor .type8 false 0xCDD7 = some (.wioX 4 5) ∧
  decodeFor .type8 false 0x87E3 = some (.rtmi 7) ∧
  decodeFor .type8 true 0x0284 = some (.aamow 0 2 4) ∧
  decodeFor .type8 true 0x2891 = some (.amowLoad 2 0) ∧
  decodeFor .type8 true 0x1393 = some (.drdR 1 3) ∧
  decodeFor .type8 false 0x0057 = none

/-! ### The step -/

/-- A step runs the instruction that the word at LOC of the current program page decodes to, in the set that PSW bit 12 selects; a word
left by XCU or XCUI is run instead, in the standard set, and is then used up (R34, R83, R139, R150, R324). -/
def Obligations.StepRunsTheDecodedInstruction : Prop :=
  ∀ (s : State) (i : Instr), s.awaitingNmi = false →
    (s.instr = none → s.reaches (.abs s.progCur) s.pc → decodeFor s.plat.cpu s.alt (s.word s.progCur s.pc) = some i →
      step s = exec i s) ∧
    (∀ w, s.instr = some w → decodeFor s.plat.cpu false w = some i → step s = exec i { s with instr := none })

/-- When a step stops before an instruction is done: on a CPU that awaits the NMI notification, on a fetch that fails, on an unassigned word,
and in an instruction, one of whose transfers fails and that has no error exit (R154, R330, R384). The first failing transfer is the one named,
and memory is as the stores before it left it. The unassigned word is the model's reading of D8, the first clause of D43 (log 20, 21, 33); that
MRD, MWR, RSP, WSP, ARSC and ARED stop so is the model's (log 29), and the order of two reads too where no rule states one (log 37). -/
def Obligations.StepStopsBeforeAnInstruction : Prop :=
  ∀ s : State,
    (s.awaitingNmi = true → step s = .fault (.awaitingNmi s)) ∧
    (s.awaitingNmi = false → s.instr = none → ∀ k, transferFailure s.plat (.abs s.progCur) s.pc = some k →
      step s = .fault (.transferError k (.abs s.progCur) s.pc s)) ∧
    (s.awaitingNmi = false → s.instr = none → s.reaches (.abs s.progCur) s.pc →
      decodeFor s.plat.cpu s.alt (s.word s.progCur s.pc) = none →
      step s = .fault (.unassignedEncoding (s.word s.progCur s.pc) s)) ∧
    (∀ (i : Instr) k sp a, s.firstFailure (i.transfers s) = some (k, sp, a) →
      ∃ t, exec i s = .fault (.transferError k sp a t) ∧ t.mem = s.memoryAtFailure (i.transfers s))

/-! ### The whole machine -/

/-- Every step keeps the invariant: memory and map memory in canonical form, MOD 0 where MODIFIED is false, semaphore blocking clear, a
word of XCU waiting unmodified in the standard set (R37, R38, R57, R324). So a run that starts from a launch state with memory in canonical form
and ends by its step budget or at its end address ends with it (R421, R441; how a run is made of steps: log 38). -/
def Obligations.StepKeepsTheInvariant : Prop :=
  (∀ s t : State, Invariant s → step s = .next t → Invariant t) ∧
  (∀ (alternative : Bool) (s t : State), s.mem.wf = true → s.mapMem.wf = true →
    run alternative s = .stepBudget t ∨ run alternative s = .endAddress t → Invariant t)

/-- The state after reset has the invariant and meets the conditions of R421. A launch in it goes on, and a launch in a state that does not meet them
is refused (R421, U14; that the refusal is an outcome of its own is the model's, log 38). -/
def Obligations.ResetHasTheInvariant : Prop :=
  (Invariant State.reset ∧ State.reset.mod = 0 ∧ State.reset.modified = false ∧ State.reset.alt = false ∧
    State.reset.semBlock = false ∧ State.reset.instr = none ∧ State.reset.awaitingNmi = false) ∧
  State.reset.launch false = .next State.reset ∧
  (∀ (s : State) (alternative : Bool),
    (s.launch alternative = .next s ↔ s.mod = 0 ∧ s.modified = false ∧ (alternative = false → s.alt = false) ∧ s.semBlock = false ∧
      s.instr = none ∧ s.awaitingNmi = false) ∧
    (s.launch alternative ≠ .next s → run alternative s = .refused .launchState))

/-- Which instructions change which register outside the general registers: the platform never; BASE and PROG only LDP and LDN; TIMER only
LDT, LDP, LDN; UMAP only LDS, SLS, LDP, LDN; LEVEL and BOUND only those that R52 and R53 name; SPM only WSP; map memory only MWR
(R36, R51 to R55, R88). -/
def Obligations.SystemRegistersAreWrittenOnlyBy : Prop :=
  ∀ (i : Instr) (s t : State), exec i s = .next t →
    t.plat = s.plat ∧
    (i.loadsProcess = false → t.base = s.base ∧ t.prog = s.prog) ∧
    (i.loadsProcess = false → i.loadsTimer = false → t.timer = s.timer) ∧
    (i.loadsProcess = false → i.loadsStatus = false → t.umap = s.umap) ∧
    (i.loadsProcess = false → i.changesLevel = false → t.level = s.level) ∧
    (i.loadsProcess = false → i.changesBound = false → t.bound = s.bound) ∧
    (i.writesSystemMap = false → t.spm = s.spm) ∧
    (i.writesMapMemory = false → t.mapMem = s.mapMem)

/-- No instruction changes the arithmetic flags, PSW bits 7:4, but ADDC, ADD, ADDU, SUB, SUBU, TST and the loads of the whole PSW (R45). -/
def Obligations.ArithmeticFlagsAreWrittenOnlyBy : Prop :=
  ∀ (i : Instr) (s t : State), exec i s = .next t →
    i.setsFlags = false → i.loadsStatus = false → i.loadsProcess = false →
    t.psw.extractLsb' 4 4 = s.psw.extractLsb' 4 4

/-- Every instruction leaves the modification cleared but the modify instructions, RELS, RESS, JON, JOZ, and ALT on other types than 6 (R38,
R176). A block move that stands at an interruption point leaves it as it is (R393; the point is the model's choice, log 24). -/
def Obligations.ModificationIsClearedByAllBut : Prop :=
  ∀ (i : Instr) (s t : State), exec i s = .next t → i.keepsModification = false →
    (i = .alt → s.plat.cpu = .type6) →
    (t.mod = 0 ∧ t.modified = false) ∨ (i.isBlockMove = true ∧ t.pc = s.pc ∧ ModificationKept s t)

/-! ### Modify and move -/

/-- The modify instructions add their operand to MOD, set MODIFIED and change nothing else; their operand is never modified (R170 to
R175). -/
def Obligations.ModifyInstructionsAddToMod : Prop :=
  ∀ s : State,
    (∀ k, Modifies (.modcC8 k) s (zext k) ∧ Modifies (.modcCn8 k) s (-zext k) ∧
      Modifies (.mod4C8 k) s (16 * zext k) ∧ Modifies (.mod4Cn8 k) s (-(16 * zext k)) ∧ Modifies (.mod8 k) s (256 * zext k)) ∧
    (∀ x d, s.dataReaches (s.base + s.reg (indexReg x) + zext d) →
      Modifies (.modB6 x d) s (s.data (s.base + s.reg (indexReg x) + zext d)) ∧
      Modifies (.modnB6 x d) s (-(s.data (s.base + s.reg (indexReg x) + zext d)))) ∧
    (∀ k, s.dataReaches (s.base + zext k) →
      Modifies (.modB8 k) s (s.data (s.base + zext k)) ∧ Modifies (.modnB8 k) s (-(s.data (s.base + zext k)))) ∧
    (∀ k, s.reaches (.abs s.progCur) (s.prog + zext k) →
      Modifies (.modP8 k) s (s.word s.progCur (s.prog + zext k)) ∧
      Modifies (.modnP8 k) s (-(s.word s.progCur (s.prog + zext k)))) ∧
    (∀ r, Modifies (.modR r) s (s.reg r) ∧ Modifies (.modnR r) s (-(s.reg r))) ∧
    (∀ r, s.dataReaches (s.base + s.reg r) →
      Modifies (.modX r) s (s.data (s.base + s.reg r)) ∧ Modifies (.modnX r) s (-(s.data (s.base + s.reg r))))

/-- MOVC puts its constant, MOD added after negation, in a register or in the word at BASE + x[F1] (R181). -/
def Obligations.MoveConstantWritesTheConstant : Prop :=
  ∀ s : State,
    (∀ k r, Writes (.movcC8R k r) s (.reg r) (zext k + s.mod) ∧ Writes (.movcCn8R k r) s (.reg r) (-zext k + s.mod)) ∧
    (∀ r c, s.dataReaches (s.base + s.reg r) →
      Writes (.movcC4X r c) s (.data (s.base + s.reg r)) (zext c + s.mod) ∧
      Writes (.movcCn4X r c) s (.data (s.base + s.reg r)) (-zext c + s.mod))

/-- MOV, its nine forms, and MVP (R182, R185). -/
def Obligations.MoveWritesTheOperand : Prop :=
  ∀ s : State,
    (∀ k r, s.dataReaches (s.base + zext k + s.mod) →
      Writes (.movB8R k r) s (.reg r) (s.data (s.base + zext k + s.mod)) ∧
      Writes (.movRB8 k r) s (.data (s.base + zext k + s.mod)) (s.reg r)) ∧
    (∀ f1 f2, Writes (.movR false f1 f2) s (.reg f2) (s.reg f1)) ∧
    (∀ f1 f2, s.dataReaches (s.base + s.reg f2 + s.mod) →
      Writes (.movR true f1 f2) s (.data (s.base + s.reg f2 + s.mod)) (s.reg f1)) ∧
    (∀ f1 f2, s.dataReaches (s.base + s.reg f1) → Writes (.movX false f1 f2) s (.reg f2) (s.data (s.base + s.reg f1))) ∧
    (∀ f1 f2, s.dataReaches (s.base + s.reg f1) → s.dataReaches (s.base + s.reg f2 + s.mod) →
      Writes (.movX true f1 f2) s (.data (s.base + s.reg f2 + s.mod)) (s.data (s.base + s.reg f1))) ∧
    (∀ x d r, s.dataReaches (s.base + s.reg (indexReg x) + zext d + s.mod) →
      Writes (.movB6R x d r) s (.reg r) (s.data (s.base + s.reg (indexReg x) + zext d + s.mod)) ∧
      Writes (.movRB6 x d r) s (.data (s.base + s.reg (indexReg x) + zext d + s.mod)) (s.reg r)) ∧
    (∀ k r, s.reaches (.abs s.progCur) (s.prog + zext k + s.mod) →
      Writes (.movP8R k r) s (.reg r) (s.word s.progCur (s.prog + zext k + s.mod))) ∧
    (∀ x d q, s.reaches (.abs s.progCur) (s.prog + s.reg (indexReg x) + zext d + s.mod) →
      Writes (.mvp x d q) s (.reg (lowReg q)) (s.word s.progCur (s.prog + s.reg (indexReg x) + zext d + s.mod)))

/-- MMP reads its parameter from the user program page where LEVEL is 1 or 8000, else from the system program page (R186). Which page
`ProgPage` gives for each is the platform's; that PROG_SYS is taken at PG = 0, LEVEL = 1 is the model's choice (log 9). -/
def Obligations.MoveMonitorParameterReadsTheCallersPage : Prop :=
  ∀ (s : State) (f1 f2 : RegNum),
    ((s.level = 1 ∨ s.level = 0x8000) → s.reaches (.abs s.progUser) (s.prog + s.reg f1 + s.mod) →
      Writes (.mmp f1 f2) s (.reg f2) (s.word s.progUser (s.prog + s.reg f1 + s.mod))) ∧
    (s.level ≠ 1 → s.level ≠ 0x8000 → s.reaches (.abs s.progSys) (s.prog + s.reg f1 + s.mod) →
      Writes (.mmp f1 f2) s (.reg f2) (s.word s.progSys (s.prog + s.reg f1 + s.mod)))

/-- MOVB and MOVL, load and store (R183, R184, R90, R91; the wrap of a byte address: the spec's decision D15). -/
def Obligations.MoveByteAndMoveLong : Prop :=
  ∀ (s : State) (x : BitVec 2) (d : BitVec 6) (q : BitVec 2),
    let ba := (2 * s.base.toNat + (s.reg (indexReg x)).toNat + d.toNat + 2 * s.mod.toNat) % 131072
    let a := s.base + s.reg (indexReg x) + zext d
    (s.dataReaches (byteWord ba) →
      Writes (.movbLoad x d q) s (.reg (lowReg q)) (zext (s.byteAt s.dataPage ba)) ∧
      Answers (.movbStore x d q) s fun t =>
        ByteSet s t s.dataPage ba (lowByte (s.reg (lowReg q))) ∧ RegsKept s t ∧ PswKept s t ∧ SpecialsKept s t ∧ EndsAfter s t 1) ∧
    (s.dataReaches a → s.dataReaches (a + 1) →
      WritesBoth (.movlLoad x d q) s (.reg (lowReg q)) (s.data a) (.reg (succReg (lowReg q))) (s.data (a + 1))) ∧
    (s.dataReaches (a + s.mod) → s.dataReaches (a + s.mod + 1) →
      WritesBoth (.movlStore x d q) s (.data (a + s.mod)) (s.reg (lowReg q)) (.data (a + s.mod + 1)) (s.reg (succReg (lowReg q))))

/-- MOVM moves 1 + ((MOD - 1) mod 16) words one at a time and increments both pointers, one register twice a word where the pointers
are one register (R187, which marks that last clause as its own inference). -/
def Obligations.MoveMultipleMovesOneWordAtATime : Prop :=
  ∀ (s : State) (f1 f2 : RegNum),
    let n := 1 + (s.mod - 1).toNat % 16
    let e : Nat := if f1 = f2 then 2 else 1
    let src := fun k : Nat => s.base + s.reg f1 + BitVec.ofNat 16 (e * k)
    let dst := fun k : Nat => s.base + s.reg f2 + BitVec.ofNat 16 (e * k)
    (∀ k < n, s.dataReaches (src k) ∧ s.dataReaches (dst k)) →
    Answers (.movm f1 f2) s fun t =>
      t.mem = copiedWords (fun k => wordIndex s.dataPage (src k)) (fun k => wordIndex s.dataPage (dst k)) n s.mem ∧
      MemKeptOutside s t ((List.range n).map fun k => wordIndex s.dataPage (dst k)) ∧
      (∀ q, t.reg q = if q = f1 ∨ q = f2 then s.reg q + BitVec.ofNat 16 (e * n) else s.reg q) ∧
      PswKept s t ∧ SpecialsKept s t ∧ EndsAfter s t 1

/-- PUT replaces the bits that MOD selects; XCH exchanges its operands (R188, R189). -/
def Obligations.PutMergesAndExchangeExchanges : Prop :=
  ∀ (s : State) (f1 f2 : RegNum),
    (s.dataReaches (s.base + s.reg f2) →
      Writes (.putR f1 f2) s (.data (s.base + s.reg f2)) ((s.data (s.base + s.reg f2) &&& ~~~s.mod) ||| (s.reg f1 &&& s.mod))) ∧
    (s.dataReaches (s.base + s.reg f1) → s.dataReaches (s.base + s.reg f2) →
      Writes (.putX f1 f2) s (.data (s.base + s.reg f2))
        ((s.data (s.base + s.reg f2) &&& ~~~s.mod) ||| (s.data (s.base + s.reg f1) &&& s.mod))) ∧
    WritesBoth (.xchR f1 false f2) s (.reg f2) (s.reg f1) (.reg f1) (s.reg f2) ∧
    (s.dataReaches (s.base + s.reg f2 + s.mod) →
      WritesBoth (.xchR f1 true f2) s (.data (s.base + s.reg f2 + s.mod)) (s.reg f1) (.reg f1)
        (s.data (s.base + s.reg f2 + s.mod))) ∧
    (s.dataReaches (s.base + s.reg f1) →
      WritesBoth (.xchX f1 false f2) s (.reg f2) (s.data (s.base + s.reg f1)) (.data (s.base + s.reg f1)) (s.reg f2)) ∧
    (s.dataReaches (s.base + s.reg f1) → s.dataReaches (s.base + s.reg f2 + s.mod) →
      WritesBoth (.xchX f1 true f2) s (.data (s.base + s.reg f2 + s.mod)) (s.data (s.base + s.reg f1))
        (.data (s.base + s.reg f1)) (s.data (s.base + s.reg f2 + s.mod)))

/-- STC: a value onto a forward stack, its operand evaluated after the increment; registers 15-C4 down to 0 onto a backward stack; with
C4 < 8 refused (R190, D28, D30). -/
def Obligations.StackInstructionsStack : Prop :=
  ∀ s : State,
    (∀ f1 f2, s.dataReaches (s.base + (s.reg f2 + 1) + s.mod) →
      Answers (.stcRM f1 f2) s fun t =>
        RegSet s t f2 (s.reg f2 + 1) ∧
        WordSet s t s.dataPage (s.base + (s.reg f2 + 1) + s.mod) (if f1 = f2 then s.reg f2 + 1 else s.reg f1) ∧
        PswKept s t ∧ SpecialsKept s t ∧ EndsAfter s t 1) ∧
    (∀ f1 f2, let a := s.base + if f1 = f2 then s.reg f2 + 1 else s.reg f1
      s.dataReaches a → s.dataReaches (s.base + (s.reg f2 + 1) + s.mod) →
      Answers (.stcXM f1 f2) s fun t =>
        RegSet s t f2 (s.reg f2 + 1) ∧ WordSet s t s.dataPage (s.base + (s.reg f2 + 1) + s.mod) (s.data a) ∧
        PswKept s t ∧ SpecialsKept s t ∧ EndsAfter s t 1) ∧
    (∀ c : BitVec 4, 8 ≤ c →
      let top := s.reg 7 - BitVec.ofNat 16 (16 - c.toNat)
      let a := fun k : Nat => s.base + (top + BitVec.ofNat 16 k) + s.mod
      (∀ k < 16 - c.toNat, s.dataReaches (a k)) →
      Answers (.stcC4 c) s fun t =>
        RegSet s t 7 top ∧
        (∀ r : RegNum, r.toNat < 16 - c.toNat → t.data (a r.toNat) = if r = 7 then s.reg 7 - 1 else s.reg r) ∧
        MemKeptOutside s t ((List.range (16 - c.toNat)).map fun k => wordIndex s.dataPage (a k)) ∧
        PswKept s t ∧ SpecialsKept s t ∧ EndsAfter s t 1) ∧
    (∀ c : BitVec 4, c < 8 → exec (.stcC4 c) s = .refused (.noSuchRegister c))

/-- UNS: a value from a forward stack, the pointer decremented last; registers 0 to 15-C4 from a backward stack, the pointer advanced by
`uns_advance`; with C4 < 8 refused (R191, D29, D30). -/
def Obligations.UnstackInstructionsUnstack : Prop :=
  ∀ s : State,
    (∀ f1 f2, let v := s.data (s.base + s.reg f2 + s.mod)
      s.dataReaches (s.base + s.reg f2 + s.mod) →
      Answers (.unsRM f1 f2) s fun t =>
        (∀ q, t.reg q = if q = f2 then (if f1 = f2 then v else s.reg f2) - 1 else if q = f1 then v else s.reg q) ∧
        MemKept s t ∧ PswKept s t ∧ SpecialsKept s t ∧ EndsAfter s t 1) ∧
    (∀ f1 f2, s.dataReaches (s.base + s.reg f2 + s.mod) → s.dataReaches (s.base + s.reg f1) →
      Answers (.unsXM f1 f2) s fun t =>
        RegSet s t f2 (s.reg f2 - 1) ∧ WordSet s t s.dataPage (s.base + s.reg f1) (s.data (s.base + s.reg f2 + s.mod)) ∧
        PswKept s t ∧ SpecialsKept s t ∧ EndsAfter s t 1) ∧
    (∀ c : BitVec 4, 8 ≤ c →
      let a := fun k : Nat => s.base + s.reg 7 + s.mod + BitVec.ofNat 16 k
      let advance : Nat := match s.plat.unsAdvance with | .cnt => 15 - c.toNat | .cntPlusOne => 16 - c.toNat
      (∀ k < 16 - c.toNat, s.dataReaches (a k)) →
      Answers (.unsC4 c) s fun t =>
        (∀ r : RegNum, t.reg r =
          if r.toNat < 16 - c.toNat then s.data (a r.toNat) else if r = 7 then s.reg 7 + BitVec.ofNat 16 advance else s.reg r) ∧
        MemKept s t ∧ PswKept s t ∧ SpecialsKept s t ∧ EndsAfter s t 1) ∧
    (∀ c : BitVec 4, c < 8 → exec (.unsC4 c) s = .refused (.noSuchRegister c))

/-! ### Jump -/

/-- JMP, relative to the location after it, with and without a return link, and indexed (R201 to R203). -/
def Obligations.JumpsGoToTheirTarget : Prop :=
  ∀ s : State,
    (∀ k, Jumps (.jmpL8 k) s (s.pc + 1 + zext k + s.mod) ∧ Jumps (.jmpLn8 k) s (s.pc + 1 - zext k + s.mod)) ∧
    (∀ k q, Jumps (.jmpL10 k q) s (s.pc + 1 + (256 * zext q + zext k) + s.mod) ∧
      Jumps (.jmpLn10 k q) s (s.pc + 1 - (256 * zext q + zext k) + s.mod)) ∧
    (∀ k l, let r : RegNum := match l with | .s4 => 4 | .s5 => 5 | .s6 => 6
      (Answers (.jmpS2L8 k l) s fun t => PlaceSet s t (.reg r) (s.pc + 1 - s.prog) ∧ PswKept s t ∧ SpecialsKept s t ∧
        EndsAt t (s.pc + 1 + zext k + s.mod)) ∧
      (Answers (.jmpS2Ln8 k l) s fun t => PlaceSet s t (.reg r) (s.pc + 1 - s.prog) ∧ PswKept s t ∧ SpecialsKept s t ∧
        EndsAt t (s.pc + 1 - zext k + s.mod))) ∧
    (∀ x d, Jumps (.jmpP6 x d) s (s.reg (indexReg x) + zext d + s.mod + s.prog))

/-- JMPI goes to its operand word plus PROG, with and without a return link (R204). -/
def Obligations.JumpIndirectGoesThroughItsOperand : Prop :=
  ∀ s : State,
    (∀ x d, let a := s.base + s.reg (indexReg x) + zext d + s.mod
      s.dataReaches a → Jumps (.jmpiB6 x d) s (s.data a + s.prog)) ∧
    (∀ k, s.dataReaches (s.base + zext k + s.mod) → Jumps (.jmpiB8 k) s (s.data (s.base + zext k + s.mod) + s.prog)) ∧
    (∀ k, let a := s.prog + zext k + s.mod
      s.reaches (.abs s.progCur) a →
      Jumps (.jmpiP8 k) s (s.word s.progCur a + s.prog) ∧
      ∀ l, Answers (.jmpiS2P8 k l) s fun t =>
        PlaceSet s t (.reg (match l with | .s4 => 4 | .s5 => 5 | .s6 => 6)) (s.pc + 1 - s.prog) ∧ PswKept s t ∧ SpecialsKept s t ∧
        EndsAt t (s.word s.progCur a + s.prog))

/-- JPZI enters page zero: LEVEL bit 15 set, the link in register 4, PSW bit 0 cleared; RPZ leaves it (R205, R206; which page each is: the
spec's decision D18). -/
def Obligations.PageZeroIsEnteredAndLeft : Prop :=
  ∀ s : State,
    (∀ k, s.reaches (.abs s.progUser) (s.prog + zext k + s.mod) →
      Answers (.jpzi k) s fun t =>
        PlaceSet s t (.reg 4) (s.pc + 1 - s.prog) ∧ PswChanged s t [(0, false)] ∧ SpecialsKept { s with level := s.level ||| 0x8000 } t ∧
        EndsAt t (s.word s.progUser (s.prog + zext k + s.mod) + s.prog)) ∧
    (∀ x d, Answers (.rpz x d) s fun t =>
        RegsKept s t ∧ MemKept s t ∧ PswChanged s t [(0, true)] ∧ SpecialsKept { s with level := s.level &&& 0x7FFF } t ∧
        EndsAt t (s.reg (indexReg x) + zext d + s.mod + s.prog))

/-- JON, JOZ, JVN and SOB. JON and JOZ leave MOD and MODIFIED as they are and are refused while MODIFIED is true (R207 to R210, D11, D14). -/
def Obligations.ConditionalJumps : Prop :=
  ∀ s : State,
    (s.modified = false →
      (∀ r c, let keeps := fun (i : Instr) (a : Word) => Answers i s fun t => SameAs s t ∧ ModificationKept s t ∧ t.pc = a
        let off := s.pc + 1
        keeps (.jonRL4 r c) (if s.reg r ≠ 0 then off + zext c else off) ∧
        keeps (.jonRLn4 r c) (if s.reg r ≠ 0 then off - zext c else off) ∧
        keeps (.jozRL4 r c) (if s.reg r = 0 then off + zext c else off) ∧
        keeps (.jozRLn4 r c) (if s.reg r = 0 then off - zext c else off) ∧
        (s.dataReaches (s.base + s.reg r) →
          keeps (.jonXL4 r c) (if s.data (s.base + s.reg r) ≠ 0 then off + zext c else off) ∧
          keeps (.jonXLn4 r c) (if s.data (s.base + s.reg r) ≠ 0 then off - zext c else off) ∧
          keeps (.jozXL4 r c) (if s.data (s.base + s.reg r) = 0 then off + zext c else off) ∧
          keeps (.jozXLn4 r c) (if s.data (s.base + s.reg r) = 0 then off - zext c else off)))) ∧
    (s.modified = true → ∀ r c,
      ∀ i ∈ [Instr.jonRL4 r c, .jonRLn4 r c, .jonXL4 r c, .jonXLn4 r c, .jozRL4 r c, .jozRLn4 r c, .jozXL4 r c, .jozXLn4 r c],
        exec i s = .refused .jumpWhileModified) ∧
    (∀ c, Jumps (.jvnL4 c) s (if s.overflow = false then s.pc + 1 + zext c + s.mod else s.pc + 1) ∧
      Jumps (.jvnLn4 c) s (if s.overflow = false then s.pc + 1 - zext c + s.mod else s.pc + 1)) ∧
    (∀ k r, Answers (.sob k r) s fun t =>
        PlaceSet s t (.reg r) (s.reg r - 1) ∧ PswKept s t ∧ SpecialsKept s t ∧
        EndsAt t (if s.reg r - 1 ≠ 0 then s.pc + 1 - zext k + s.mod else s.pc + 1))

/-! ### Arithmetic and logic -/

/-- ADDC adds its constant, MOD added after negation, and sets C and V (R216, R215); what C and V are is
the spec's decision D9, and F2 and F3 are left free. -/
def Obligations.AddConstantAddsWithFlags : Prop :=
  ∀ (s : State) (k : BitVec 8) (r : RegNum),
    (let c := zext k + s.mod
     WritesWithFlags (.addcC8R k r) s (.reg r) (s.reg r + c) (decide (65536 ≤ (s.reg r).toNat + c.toNat))
       (decide ((s.reg r).toInt + c.toInt < -32768 ∨ 32767 < (s.reg r).toInt + c.toInt))) ∧
    (let c := -zext k + s.mod
     WritesWithFlags (.addcCn8R k r) s (.reg r) (s.reg r + c) (decide (65536 ≤ (s.reg r).toNat + c.toNat))
       (decide ((s.reg r).toInt + c.toInt < -32768 ∨ 32767 < (s.reg r).toInt + c.toInt)))

/-- ADD and ADDU (R217, R218): the sum, its carry and its overflow, ADDU with C added (flags: the spec's decision D9). -/
def Obligations.AddAddsWithFlags : Prop :=
  ∀ s : State,
    (∀ a f1 b f2, s.placeReaches ((op1 a f1).loc s) → s.placeReaches ((op2 b f2).loc s) →
      let v := s.valueAt ((op1 a f1).loc s)
      let w := s.valueAt ((op2 b f2).loc s)
      WritesWithFlags (.addRR a f1 b f2) s ((op2 b f2).loc s) (w + v) (decide (65536 ≤ w.toNat + v.toNat))
        (decide (w.toInt + v.toInt < -32768 ∨ 32767 < w.toInt + v.toInt)) ∧
      (let n : Nat := if s.carry then 1 else 0
       WritesWithFlags (.adduRR a f1 b f2) s ((op2 b f2).loc s) (w + v + BitVec.ofNat 16 n)
        (decide (65536 ≤ w.toNat + v.toNat + n)) (decide (w.toInt + v.toInt + n < -32768 ∨ 32767 < w.toInt + v.toInt + n)))) ∧
    (∀ x d r, let a := s.base + s.reg (indexReg x) + zext d + s.mod
      s.dataReaches a →
      (let v := s.data a
       let w := s.reg r
       WritesWithFlags (.addB6R x d r) s (.reg r) (w + v) (decide (65536 ≤ w.toNat + v.toNat))
        (decide (w.toInt + v.toInt < -32768 ∨ 32767 < w.toInt + v.toInt))) ∧
      (let v := s.reg r
       let w := s.data a
       WritesWithFlags (.addRB6 x d r) s (.data a) (w + v) (decide (65536 ≤ w.toNat + v.toNat))
        (decide (w.toInt + v.toInt < -32768 ∨ 32767 < w.toInt + v.toInt))))

/-- SUB and SUBU (R219, R220): the difference, C where no borrow occurs, the overflow; SUBU subtracts the borrow
1 - C too (flags: the spec's decision D9). -/
def Obligations.SubtractSubtractsWithFlags : Prop :=
  ∀ (s : State) (a : Bool) (f1 : RegNum) (b : Bool) (f2 : RegNum),
    s.placeReaches ((op1 a f1).loc s) → s.placeReaches ((op2 b f2).loc s) →
      let v := s.valueAt ((op1 a f1).loc s)
      let w := s.valueAt ((op2 b f2).loc s)
      WritesWithFlags (.subRR a f1 b f2) s ((op2 b f2).loc s) (w - v) (decide (v.toNat ≤ w.toNat))
        (decide (w.toInt - v.toInt < -32768 ∨ 32767 < w.toInt - v.toInt)) ∧
      (let borrow : Nat := if s.carry then 0 else 1
       WritesWithFlags (.subuRR a f1 b f2) s ((op2 b f2).loc s) (w - v - BitVec.ofNat 16 borrow)
        (decide (v.toNat + borrow ≤ w.toNat))
        (decide (w.toInt - v.toInt - borrow < -32768 ∨ 32767 < w.toInt - v.toInt - borrow)))

/-- AND, IOR and XOR put the bitwise operation of both operands in OP2 and change no flag (R223 to R225). -/
def Obligations.LogicInstructionsCombineBits : Prop :=
  ∀ s : State,
    (∀ a f1 b f2, s.placeReaches ((op1 a f1).loc s) → s.placeReaches ((op2 b f2).loc s) →
      Writes (.andRR a f1 b f2) s ((op2 b f2).loc s) (s.valueAt ((op2 b f2).loc s) &&& s.valueAt ((op1 a f1).loc s)) ∧
      Writes (.iorRR a f1 b f2) s ((op2 b f2).loc s) (s.valueAt ((op2 b f2).loc s) ||| s.valueAt ((op1 a f1).loc s))) ∧
    (∀ a f1 f2, s.placeReaches ((op1 a f1).loc s) →
      Writes (.xor a f1 f2) s (.reg f2) (s.reg f2 ^^^ s.valueAt ((op1 a f1).loc s)))

/-- MUL leaves the 32-bit signed product in two words, low half first; DIV the quotient and the remainder of the unsigned 32-bit pair, and
with a divisor of zero two values that nothing constrains, changing nothing else (R221, R222, D16, D17). -/
def Obligations.MultiplyAndDivide : Prop :=
  ∀ (s : State) (a : Bool) (f1 f2 : RegNum), s.placeReaches ((op1 a f1).loc s) →
    let v := s.valueAt ((op1 a f1).loc s)
    (let e := s.base + s.reg f2 + s.mod
     s.dataReaches e → s.dataReaches (e + 1) →
     ∃ p : BitVec 32, p.toInt = v.toInt * (s.data e).toInt ∧
       WritesBoth (.mul a f1 f2) s (.data e) (p.extractLsb' 0 16) (.data (e + 1)) (p.extractLsb' 16 16)) ∧
    (let n := (s.reg (succReg f2)).toNat * 65536 + (s.reg f2).toNat
     v ≠ 0 → WritesBoth (.div a f1 f2) s (.reg f2) (BitVec.ofNat 16 (n / v.toNat)) (.reg (succReg f2)) (BitVec.ofNat 16 (n % v.toNat))) ∧
    (v = 0 → Answers (.div a f1 f2) s fun t =>
      (∀ q, q ≠ f2 → q ≠ succReg f2 → t.reg q = s.reg q) ∧ MemKept s t ∧ t.psw = s.psw ∧ SpecialsKept s t ∧ EndsAfter s t 1)

/-- CLR, DEC, INC, INV, NEG, SWP, SXT, XTR: the operand replaced by a function of itself, no flag changed (R226 to R231, R236, R237). -/
def Obligations.OneOperandInstructionsReplaceTheOperand : Prop :=
  ∀ s : State,
    (∀ x d, let a := s.base + s.reg (indexReg x) + zext d + s.mod
      s.dataReaches a →
      Writes (.clr x d) s (.data a) 0 ∧ Writes (.dec x d) s (.data a) (s.data a - 1) ∧ Writes (.inc x d) s (.data a) (s.data a + 1)) ∧
    (∀ r, Writes (.invR r) s (.reg r) (-1 - s.reg r) ∧ Writes (.negR r) s (.reg r) (0 - s.reg r) ∧
      Writes (.swpR r) s (.reg r) (lowByte (s.reg r) ++ highByte (s.reg r))) ∧
    (∀ r, let a := s.base + s.reg r + s.mod
      s.dataReaches a →
      Writes (.invM r) s (.data a) (-1 - s.data a) ∧ Writes (.negM r) s (.data a) (0 - s.data a) ∧
      Writes (.swpM r) s (.data a) (lowByte (s.data a) ++ highByte (s.data a))) ∧
    (∀ r c, let n := if s.modified then s.mod.toNat % 16 else c.toNat
      let a := s.base + s.reg r
      s.dataReaches a → ∃ v : Word, (∀ i, i < 16 → v.getLsbD i = (s.data a).getLsbD (min i n)) ∧ Writes (.sxt r c) s (.data a) v) ∧
    (∀ r c, ∃ v : Word, (∀ i, i < 16 → v.getLsbD i = (decide (i < c.toNat) && (s.reg r).getLsbD i)) ∧ Writes (.xtrRC r c) s (.reg r) v) ∧
    (∀ r c, let a := s.base + s.reg r
      s.dataReaches a →
      ∃ v : Word, (∀ i, i < 16 → v.getLsbD i = (decide (i < c.toNat) && (s.data a).getLsbD i)) ∧ Writes (.xtrXC r c) s (.data a) v)

/-- DECD and INCD change both operands once, from their old values; DDCP and DICP change an operand and its successor by 2 (R232 to R235). -/
def Obligations.DoubleInstructionsChangeTwoOperands : Prop :=
  ∀ (s : State) (f1 f2 : RegNum),
    WritesBoth (.decdRR f1 f2) s (.reg f1) (s.reg f1 - 1) (.reg f2) (s.reg f2 - 1) ∧
    WritesBoth (.incdRR f1 f2) s (.reg f1) (s.reg f1 + 1) (.reg f2) (s.reg f2 + 1) ∧
    (let a1 := s.base + s.reg f1
     let a2 := s.base + s.reg f2 + s.mod
     s.dataReaches a1 → s.dataReaches a2 →
     WritesBoth (.decdXM f1 f2) s (.data a1) (s.data a1 - 1) (.data a2) (s.data a2 - 1) ∧
     WritesBoth (.incdXM f1 f2) s (.data a1) (s.data a1 + 1) (.data a2) (s.data a2 + 1)) ∧
    WritesBoth (.ddcpR f2) s (.reg f2) (s.reg f2 - 2) (.reg (f2 + 1)) (s.reg (f2 + 1) - 2) ∧
    WritesBoth (.dicpR f2) s (.reg f2) (s.reg f2 + 2) (.reg (f2 + 1)) (s.reg (f2 + 1) + 2) ∧
    (let a := s.base + s.reg f2 + s.mod
     s.dataReaches a → s.dataReaches (a + 1) →
     WritesBoth (.ddcpM f2) s (.data a) (s.data a - 2) (.data (a + 1)) (s.data (a + 1) - 2) ∧
     WritesBoth (.dicpM f2) s (.data a) (s.data a + 2) (.data (a + 1)) (s.data (a + 1) + 2))

/-! ### Skip -/

/-- The skips on a bit and the skips on a memory operand (R250 to R252, R254 to R261). -/
def Obligations.SkipsOnBitAndOnOperand : Prop :=
  ∀ s : State,
    (∀ r c, let n := if s.modified then s.mod.toNat % 16 else c.toNat
      (let b := (s.reg r).getLsbD n
       Skips (.sbnRC r c) s (b = true) false ∧ Skips (.sbzRC r c) s (b = false) false ∧
       Skips (.sbnpRC r c) s (b = true) true ∧ Skips (.sbzpRC r c) s (b = false) true) ∧
      (s.dataReaches (s.base + s.reg r) →
       let b := (s.data (s.base + s.reg r)).getLsbD n
       Skips (.sbnXC r c) s (b = true) false ∧ Skips (.sbzXC r c) s (b = false) false ∧
       Skips (.sbnpXC r c) s (b = true) true ∧ Skips (.sbzpXC r c) s (b = false) true)) ∧
    (∀ x d, let a := s.base + s.reg (indexReg x) + zext d + s.mod
      s.dataReaches a →
      Skips (.son x d) s (s.data a ≠ 0) false ∧ Skips (.soz x d) s (s.data a = 0) false ∧
      Skips (.sonp x d) s (s.data a ≠ 0) true ∧ Skips (.sozp x d) s (s.data a = 0) true)

/-- SEQ, SNE, SEQP, SNEP with a constant, to which MOD is added after negation, and with two operands (R253, R262, R263, R268, R269). -/
def Obligations.SkipsOnEquality : Prop :=
  ∀ s : State,
    (∀ r c, let p := zext c + s.mod
      let m := -zext c + s.mod
      Skips (.seqRC r c) s (s.reg r = p) false ∧ Skips (.seqRCn r c) s (s.reg r = m) false ∧
      Skips (.sneRC r c) s (s.reg r ≠ p) false ∧ Skips (.sneRCn r c) s (s.reg r ≠ m) false ∧
      Skips (.seqpRC r c) s (s.reg r = p) true ∧ Skips (.seqpRCn r c) s (s.reg r = m) true ∧
      Skips (.snepRC r c) s (s.reg r ≠ p) true ∧ Skips (.snepRCn r c) s (s.reg r ≠ m) true ∧
      (s.dataReaches (s.base + s.reg r) →
       let v := s.data (s.base + s.reg r)
       Skips (.seqXC r c) s (v = p) false ∧ Skips (.seqXCn r c) s (v = m) false ∧
       Skips (.sneXC r c) s (v ≠ p) false ∧ Skips (.sneXCn r c) s (v ≠ m) false ∧
       Skips (.seqpXC r c) s (v = p) true ∧ Skips (.seqpXCn r c) s (v = m) true ∧
       Skips (.snepXC r c) s (v ≠ p) true ∧ Skips (.snepXCn r c) s (v ≠ m) true)) ∧
    (∀ a f1 b f2, s.placeReaches ((op1 a f1).loc s) → s.placeReaches ((op2 b f2).loc s) →
      let v := s.valueAt ((op1 a f1).loc s)
      let w := s.valueAt ((op2 b f2).loc s)
      Skips (.seqRR a f1 b f2) s (v = w) false ∧ Skips (.sneRR a f1 b f2) s (v ≠ w) false ∧
      Skips (.seqpRR a f1 b f2) s (v = w) true ∧ Skips (.snepRR a f1 b f2) s (v ≠ w) true)

/-- SGE, SLT, signed, and SHS, SLO, unsigned, and their pair versions, with a constant and with two operands (R253, R264 to R267, R270 to
R273). -/
def Obligations.SkipsOnOrder : Prop :=
  ∀ s : State,
    (∀ r c, let p := zext c + s.mod
      Skips (.sgeRC r c) s (p.toInt ≤ (s.reg r).toInt) false ∧ Skips (.sltRC r c) s ((s.reg r).toInt < p.toInt) false ∧
      Skips (.shsRC r c) s (p.toNat ≤ (s.reg r).toNat) false ∧ Skips (.sloRC r c) s ((s.reg r).toNat < p.toNat) false ∧
      Skips (.sgepRC r c) s (p.toInt ≤ (s.reg r).toInt) true ∧ Skips (.sltpRC r c) s ((s.reg r).toInt < p.toInt) true ∧
      Skips (.shspRC r c) s (p.toNat ≤ (s.reg r).toNat) true ∧ Skips (.slopRC r c) s ((s.reg r).toNat < p.toNat) true ∧
      (s.dataReaches (s.base + s.reg r) →
       let v := s.data (s.base + s.reg r)
       Skips (.sgeXC r c) s (p.toInt ≤ v.toInt) false ∧ Skips (.sltXC r c) s (v.toInt < p.toInt) false ∧
       Skips (.shsXC r c) s (p.toNat ≤ v.toNat) false ∧ Skips (.sloXC r c) s (v.toNat < p.toNat) false ∧
       Skips (.sgepXC r c) s (p.toInt ≤ v.toInt) true ∧ Skips (.sltpXC r c) s (v.toInt < p.toInt) true ∧
       Skips (.shspXC r c) s (p.toNat ≤ v.toNat) true ∧ Skips (.slopXC r c) s (v.toNat < p.toNat) true)) ∧
    (∀ a f1 b f2, s.placeReaches ((op1 a f1).loc s) → s.placeReaches ((op2 b f2).loc s) →
      let v := s.valueAt ((op1 a f1).loc s)
      let w := s.valueAt ((op2 b f2).loc s)
      Skips (.sgeRR a f1 b f2) s (w.toInt ≤ v.toInt) false ∧ Skips (.sltRR a f1 b f2) s (v.toInt < w.toInt) false ∧
      Skips (.shsRR a f1 b f2) s (w.toNat ≤ v.toNat) false ∧ Skips (.sloRR a f1 b f2) s (v.toNat < w.toNat) false ∧
      Skips (.sgepRR a f1 b f2) s (w.toInt ≤ v.toInt) true ∧ Skips (.sltpRR a f1 b f2) s (v.toInt < w.toInt) true ∧
      Skips (.shspRR a f1 b f2) s (w.toNat ≤ v.toNat) true ∧ Skips (.slopRR a f1 b f2) s (v.toNat < w.toNat) true)

/-! ### Shift and single bit -/

/-- The single shifts SLC, SRA, SLL, SRL, in a register and in memory, by MOD mod 16 when modified, else by C4 with 0 meaning 16
(R280 to R284). -/
def Obligations.SingleShiftsShift : Prop :=
  ∀ (s : State) (r : RegNum) (c : BitVec 4),
    let n := if s.modified then s.mod.toNat % 16 else if c = 0 then 16 else c.toNat
    (let v := s.reg r
     Writes (.sllRC r c) s (.reg r) (BitVec.ofNat 16 (v.toNat * 2 ^ n)) ∧ Writes (.srlRC r c) s (.reg r) (BitVec.ofNat 16 (v.toNat / 2 ^ n)) ∧
     Writes (.sraRC r c) s (.reg r) (BitVec.ofInt 16 (v.toInt / 2 ^ n)) ∧
     ∃ u : Word, (∀ i, i < 16 → u.getLsbD ((i + n) % 16) = v.getLsbD i) ∧ Writes (.slcRC r c) s (.reg r) u) ∧
    (let a := s.base + s.reg r
     let v := s.data a
     s.dataReaches a →
     Writes (.sllXC r c) s (.data a) (BitVec.ofNat 16 (v.toNat * 2 ^ n)) ∧ Writes (.srlXC r c) s (.data a) (BitVec.ofNat 16 (v.toNat / 2 ^ n)) ∧
     Writes (.sraXC r c) s (.data a) (BitVec.ofInt 16 (v.toInt / 2 ^ n)) ∧
     ∃ u : Word, (∀ i, i < 16 → u.getLsbD ((i + n) % 16) = v.getLsbD i) ∧ Writes (.slcXC r c) s (.data a) u)

/-- The long shifts SLLL and SRLL of an operand (low half) and its successor (high half) (R280, R285, R286). -/
def Obligations.LongShiftsShiftAPair : Prop :=
  ∀ (s : State) (r : RegNum) (c : BitVec 4),
    let n := if s.modified then s.mod.toNat % 16 else if c = 0 then 16 else c.toNat
    (let D := (s.reg (r + 1)).toNat * 65536 + (s.reg r).toNat
     WritesBoth (.slllRC r c) s (.reg r) (BitVec.ofNat 16 (D * 2 ^ n)) (.reg (r + 1)) (BitVec.ofNat 16 (D * 2 ^ n / 65536)) ∧
     WritesBoth (.srllRC r c) s (.reg r) (BitVec.ofNat 16 (D / 2 ^ n)) (.reg (r + 1)) (BitVec.ofNat 16 (D / 2 ^ n / 65536))) ∧
    (let a := s.base + s.reg r
     let D := (s.data (a + 1)).toNat * 65536 + (s.data a).toNat
     s.dataReaches a → s.dataReaches (a + 1) →
     WritesBoth (.slllXC r c) s (.data a) (BitVec.ofNat 16 (D * 2 ^ n)) (.data (a + 1)) (BitVec.ofNat 16 (D * 2 ^ n / 65536)) ∧
     WritesBoth (.srllXC r c) s (.data a) (BitVec.ofNat 16 (D / 2 ^ n)) (.data (a + 1)) (BitVec.ofNat 16 (D / 2 ^ n / 65536)))

/-- SETS and CLRS change one bit of OP1, its number the value of OP2 mod 16 or a constant (R291, R292). -/
def Obligations.SetAndClearSingleBit : Prop :=
  ∀ s : State,
    (∀ f1 b f2, s.placeReaches ((op2 b f2).loc s) →
      let n := (s.valueAt ((op2 b f2).loc s)).toNat % 16
      WritesBit (.setsR f1 b f2) s (.reg f1) n true ∧ WritesBit (.clrsR f1 b f2) s (.reg f1) n false ∧
      (s.dataReaches (s.base + s.reg f1) →
       WritesBit (.setsX f1 b f2) s (.data (s.base + s.reg f1)) n true ∧
       WritesBit (.clrsX f1 b f2) s (.data (s.base + s.reg f1)) n false)) ∧
    (∀ f1 c, WritesBit (.setsRC f1 c) s (.reg f1) c.toNat true ∧
      (s.dataReaches (s.base + s.reg f1) → WritesBit (.setsXC f1 c) s (.data (s.base + s.reg f1)) c.toNat true))

/-- RELS clears a bit; RESS sets a clear bit and skips one location, and leaves a set one alone; both leave semaphore blocking clear and the
modification as it is (R293, R294, R57). -/
def Obligations.ReleaseAndReserveUnderSemaphore : Prop :=
  ∀ (s : State) (f1 : RegNum) (c : BitVec 4),
    let a := s.base + s.reg f1
    let free := { s with semBlock := false }
    s.dataReaches a →
    (Answers (.rels f1 c) s fun t =>
      (∃ v, BitChanged (s.data a) v c.toNat false ∧ WordSet s t s.dataPage a v) ∧ RegsKept s t ∧ PswKept s t ∧ SpecialsKept free t ∧
      ModificationKept s t ∧ t.pc = s.pc + 1) ∧
    ((s.data a).getLsbD c.toNat = true → Answers (.ress f1 c) s fun t => SameAs free t ∧ ModificationKept s t ∧ t.pc = s.pc + 1) ∧
    ((s.data a).getLsbD c.toNat = false → Answers (.ress f1 c) s fun t =>
      (∃ v, BitChanged (s.data a) v c.toNat true ∧ WordSet s t s.dataPage a v) ∧ RegsKept s t ∧ PswKept s t ∧ SpecialsKept free t ∧
      ModificationKept s t ∧ t.pc = s.pc + 2)

/-! ### Input and output -/

/-- SIO and RIO put a device's answer in the data operand, CIO and WIO give the data operand to the device; the device address is x[F1] +
MOD (R300 to R304). The waiting answers and the trace are the model's form of the device (D32, log 16, 17). -/
def Obligations.InputAndOutputTransferAWord : Prop :=
  ∀ (s : State) (f1 f2 : RegNum) (v : Word),
    let dev := s.reg f1 + s.mod
    let a := s.base + s.reg f2
    let reads := fun (i : Instr) (k : IoKind) (l : Loc) => Answers i s fun t =>
      PlaceSet s t l v ∧ PswKept s t ∧ SpecialsKept (s.transferred k dev (.ioIn k dev v)) t ∧ EndsAfter s t 1
    let writes := fun (i : Instr) (k : IoKind) (w : Word) => Becomes i s (s.transferred k dev (.ioOut k dev w))
    (s.deviceAnswers .sio dev v → reads (.sioR f1 f2) .sio (.reg f2) ∧ (s.dataReaches a → reads (.sioX f1 f2) .sio (.data a))) ∧
    (s.deviceAnswers .rio dev v → reads (.rioR f1 f2) .rio (.reg f2) ∧ (s.dataReaches a → reads (.rioX f1 f2) .rio (.data a))) ∧
    (s.deviceAnswers .cio dev v →
      writes (.cioR f1 f2) .cio (s.reg f2) ∧ (s.dataReaches a → writes (.cioX f1 f2) .cio (s.data a))) ∧
    (s.deviceAnswers .wio dev v →
      writes (.wioR f1 f2) .wio (s.reg f2) ∧ (s.dataReaches a → writes (.wioX f1 f2) .wio (s.data a)))

/-! ### Special instructions -/

/-- SVS and SSS save the PSW, SVT the timer, SVL the level, in a register or in memory (R313, R314, R316, R320). -/
def Obligations.SaveInstructionsSaveARegister : Prop :=
  ∀ (s : State) (r : RegNum),
    (Writes (.svsR r) s (.reg r) s.psw ∧ Writes (.sssR r) s (.reg r) s.psw ∧ Writes (.svtR r) s (.reg r) s.timer ∧
      Writes (.svlR r) s (.reg r) s.level) ∧
    (let a := s.base + s.reg r + s.mod
     s.dataReaches a →
     Writes (.svsM r) s (.data a) s.psw ∧ Writes (.sssM r) s (.data a) s.psw ∧ Writes (.svtM r) s (.data a) s.timer ∧
      Writes (.svlM r) s (.data a) s.level)

/-- LDS and SLS load the whole PSW and put its bits 3:2 in UMAP bits 1:0; on CPU type 7 the two cache statements act (R311, R312, R48). -/
def Obligations.LoadStatusLoadsThePsw : Prop :=
  ∀ (s : State) (r : RegNum),
    let loads := fun (i : Instr) (v : Word) => Answers i s fun t =>
      RegsKept s t ∧ MemKept s t ∧ t.psw = v ∧ t.freeCtr = s.freeCtr ∧ EndsAfter s t 1 ∧
      (∀ n, t.umap.getLsbD n = if n < 2 then v.getLsbD (n + 2) else s.umap.getLsbD n) ∧
      t.cacheOn = (if s.plat.cpu = .type7 then (v.getLsbD 13 || (s.cacheOn && !s.psw.getLsbD 13)) else s.cacheOn) ∧
      SpecialsKept { s with umap := t.umap, cacheOn := t.cacheOn } t
    (loads (.ldsR r) (s.reg r) ∧ loads (.slsR r) (s.reg r)) ∧
    (let a := s.base + s.reg r + s.mod
     s.dataReaches a → loads (.ldsM r) (s.data a) ∧ loads (.slsM r) (s.data a))

/-- LDT loads the timer, LDL the level, LBR the bound register, LDM the interrupt mask, and nothing else changes (R315, R317, R319, R321). -/
def Obligations.LoadInstructionsLoadARegister : Prop :=
  ∀ s : State,
    (∀ r, Becomes (.ldtR r) s { s with timer := s.reg r } ∧ Becomes (.ldlR r) s { s with level := s.reg r }) ∧
    (∀ r, let a := s.base + s.reg r + s.mod
      s.dataReaches a → Becomes (.ldtM r) s { s with timer := s.data a } ∧ Becomes (.ldlM r) s { s with level := s.data a }) ∧
    (s.dataReaches (s.base - 1) → Becomes .lbr s { s with bound := s.data (s.base - 1) }) ∧
    (∀ c, Answers (.ldm c) s fun t =>
      RegsKept s t ∧ MemKept s t ∧ PswChanged s t [(15, c.getLsbD 1), (14, c.getLsbD 0)] ∧ SpecialsKept s t ∧ EndsAfter s t 1)

/-- SVP writes the process descriptor at BASE, the PSW as it was, and then masks all interrupts (R318, R94, D42). -/
def Obligations.SaveProcessWritesTheDescriptor : Prop :=
  ∀ (s : State) (c : BitVec 4),
    let at' := fun (n : Nat) (v : Word) => (s.base + BitVec.ofNat 16 n, v)
    let ws := [at' 0 (s.reg 0), at' 1 (s.reg 1), at' 2 (s.reg 2), at' 3 (s.reg 3), at' 4 (s.reg 4), at' 5 (s.reg 5), at' 6 (s.reg 6),
      at' 7 (s.reg 7), at' 8 s.base, at' 9 s.umap, at' 10 s.prog, at' 11 (s.pc + 1 + zext c), at' 12 s.timer, at' 13 s.psw,
      (s.base - 2, s.level)] ++ if s.level.toNat % 32768 = 0 then [(s.base - 1, s.bound)] else []
    (∀ w ∈ ws, s.dataReaches w.1) →
    Answers (.svp c) s fun t =>
      WordsSet s t s.dataPage ws ∧ RegsKept s t ∧ PswChanged s t [(15, true), (14, true)] ∧ SpecialsKept s t ∧ EndsAfter s t 1

/-- LDN loads every register of the process from the descriptor; LDP too, and then stores the BASE and UMAP of the process left at words 14
and 15 of the new BASE in the new data page (R322, R323, R94). -/
def Obligations.LoadProcessLoadsTheDescriptor : Prop :=
  ∀ (s : State) (l : Loc) (r : RegNum), (l = .reg r ∨ l = .data (s.base + s.reg r + s.mod)) → s.placeReaches l → s.placeReaches l.succ →
    let d := s.valueAt l
    let p := lowByte (s.valueAt l.succ)
    let m := fun n : Nat => s.word p (d + BitVec.ofNat 16 n)
    let level := s.word p (d - 2)
    s.reaches (.abs p) (d - 2) → (level.toNat % 32768 = 0 → s.reaches (.abs p) (d - 1)) →
    (∀ n < 14, s.reaches (.abs p) (d + BitVec.ofNat 16 n)) →
    let loaded := fun t : State =>
      (∀ q : RegNum, t.reg q = m q.toNat) ∧ t.psw = m 13 ∧ t.freeCtr = s.freeCtr ∧ EndsAt t (m 11) ∧
      t.cacheOn = (if s.plat.cpu = .type7 then ((m 13).getLsbD 13 || (s.cacheOn && !s.psw.getLsbD 13)) else s.cacheOn) ∧
      SpecialsKept
        { s with
          level := level
          bound := if level.toNat % 32768 = 0 then s.word p (d - 1) else 0xFFFF
          base := m 8
          umap := m 9
          prog := m 10
          timer := m 12
          cacheOn := t.cacheOn } t
    (Answers (if l = .reg r then .ldnR r else .ldnM r) s fun t => loaded t ∧ MemKept s t) ∧
    (s.reaches (.abs (lowByte (m 9))) (m 8 + 14) → s.reaches (.abs (lowByte (m 9))) (m 8 + 15) →
      Answers (if l = .reg r then .ldpR r else .ldpM r) s fun t =>
        loaded t ∧ WordsSet s t (lowByte (m 9)) [(m 8 + 14, s.base), (m 8 + 15, s.umap)])

/-- XCU and XCUI leave their word to be executed at the same location, unmodified: the next step runs it in the standard set
(R324, R326). That this takes two steps of the model is its own choice (log 19). -/
def Obligations.ExecuteRunsTheWordInPlace : Prop :=
  ∀ (s : State) (r : RegNum),
    let runs := fun (x : Instr) (w : Word) => Answers x s fun t =>
      SameAs { s with instr := some w } t ∧ EndsAt t s.pc ∧
      ∀ i, s.awaitingNmi = false → decodeFor s.plat.cpu false w = some i → step t = exec i { t with instr := none }
    (s.dataReaches (s.base + s.reg r) → runs (.xcu r) (s.data (s.base + s.reg r))) ∧
    (let p := s.data (s.base + s.reg r + s.mod)
     s.dataReaches (s.base + s.reg r + s.mod) → s.dataReaches (s.base + p) → runs (.xcui r) (s.data (s.base + p)))

/-- MON: the link in register 7, LEVEL one higher, PSW bit 0 cleared, BOUND -1, and on at 63 or at the word at C8 of the page now in force
(R325, R95; which page that is: the spec's decision D18). -/
def Obligations.MonitorCallEntersTheMonitor : Prop :=
  ∀ (s : State) (k : BitVec 8),
    let level := s.level + 1
    let page := progPage s.plat false level s.umap s.spm
    let enters := fun (t : State) (a : Word) =>
      PlaceSet s t (.reg 7) (s.pc + 1 - s.prog) ∧ PswChanged s t [(0, false)] ∧
      SpecialsKept { s with level := level, bound := 0xFFFF } t ∧ EndsAt t a
    (k.toNat < 64 → Answers (.mon k) s fun t => enters t 63) ∧
    (64 ≤ k.toNat → s.reaches (.abs page) (zext k) → Answers (.mon k) s fun t => enters t (s.word page (zext k)))

/-- RTM and RTMI: LEVEL one lower, PSW bit 0 set where it is then 0, BOUND restored where its counter is then 0 (R327,
R328). RTM's operand is a location and not a word of memory, by the spec's decision D25. RTMI's is the word at BASE + field + MOD, as R328 and
the opcode table write it: the model's choice (DEDUCED, log 15) against the line of D25, which says PROG + sum. -/
def Obligations.MonitorReturnLeavesTheMonitor : Prop :=
  ∀ s : State,
    let level := s.level - 1
    (level.toNat % 32768 = 0 → s.dataReaches (s.base - 1)) →
    let leaves := fun (i : Instr) (a : Word) => Answers i s fun t =>
      RegsKept s t ∧ MemKept s t ∧ PswChanged s t (if level = 0 then [(0, true)] else []) ∧
      SpecialsKept { s with level := level, bound := if level.toNat % 32768 = 0 then s.data (s.base - 1) else s.bound } t ∧ EndsAt t a
    (∀ x d, leaves (.rtm x d) (s.reg (indexReg x) + zext d + s.mod + s.prog)) ∧
    (∀ d, s.dataReaches (s.base + zext d + s.mod) → leaves (.rtmi d) (s.data (s.base + zext d + s.mod) + s.prog))

/-- CPU emits NotifyVector of its operand and changes nothing else (R329). The trace is the model's form of the event (log 17). -/
def Obligations.CpuInterruptNotifiesAVector : Prop :=
  ∀ (s : State) (r : RegNum),
    Becomes (.cpuR r) s { s with trace := .notifyVector (s.reg r) :: s.trace } ∧
    (let a := s.base + s.reg r + s.mod
     s.dataReaches a → Becomes (.cpuM r) s { s with trace := .notifyVector (s.data a) :: s.trace })

/-- NMI issues the non-maskable interrupt, saves the context where the descriptor reference at FFFFE0 + 2*CPU# says, with SPM in word 16 and
cause 8 in word 17, and waits (R330, R94, R96). The save's layout is the spec's reading (D39, D43); that LOC stays at the NMI is the
model's choice (log 20). -/
def Obligations.NonMaskableInterruptSavesTheContext : Prop :=
  ∀ s : State,
    let r : Word := 0xFFE0 + 2 * zext s.plat.cpuNumber
    let d := s.word 0xFF r
    let p := lowByte (s.word 0xFF (r + 1))
    let at' := fun (n : Nat) (v : Word) => (d + BitVec.ofNat 16 n, v)
    let ws := [at' 0 (s.reg 0), at' 1 (s.reg 1), at' 2 (s.reg 2), at' 3 (s.reg 3), at' 4 (s.reg 4), at' 5 (s.reg 5), at' 6 (s.reg 6),
      at' 7 (s.reg 7), at' 8 s.base, at' 9 s.umap, at' 10 s.prog, at' 11 (s.pc + 1), at' 12 s.timer, at' 13 s.psw, at' 16 (zext s.spm),
      at' 17 8, (d - 2, s.level)] ++ if s.level.toNat % 32768 = 0 then [(d - 1, s.bound)] else []
    s.reaches (.abs 0xFF) r → s.reaches (.abs 0xFF) (r + 1) → (∀ w ∈ ws, s.reaches (.abs p) w.1) →
    Answers .nmi s fun t =>
      WordsSet s t p ws ∧ RegsKept s t ∧ PswKept s t ∧
      SpecialsKept { s with awaitingNmi := true, trace := .issueNmi :: s.trace } t ∧ EndsAt t s.pc

/-- TRP stops with an internal interrupt of cause 1, the modification cleared and nothing else changed (R331, R380, R381). -/
def Obligations.TrapStopsWithCauseOne : Prop :=
  ∀ (s : State) (c : BitVec 4), exec (.trp c) s = .fault (.internalInterrupt 1 { s with mod := 0, modified := false })

/-- CAE and CAD switch the cache enable but on CPU type 8; TST loads register 0 with the test result and leaves registers 1 to 3 and PSW
bits 7:4 at values that nothing constrains; ALT sets PSW bit 12 and clears the modification on type 6 only (R332 to R335). -/
def Obligations.CacheTestAndAlternativeSwitch : Prop :=
  ∀ s : State,
    Becomes .cae s { s with cacheOn := if s.plat.cpu = .type8 then s.cacheOn else true } ∧
    Becomes .cad s { s with cacheOn := if s.plat.cpu = .type8 then s.cacheOn else false } ∧
    (Answers .tst s fun t =>
      t.reg 0 = (match s.plat.tstResult with
        | .noErrors => 0 | .alsFailed => 1 | .amsFailed => 2 | .opregFailed => 3 | .pswFailed => 4 | .cacheFailed => 5) ∧
      (∀ q, 4 ≤ q → t.reg q = s.reg q) ∧ MemKept s t ∧ (∀ n, n < 4 ∨ 7 < n → t.psw.getLsbD n = s.psw.getLsbD n) ∧
      SpecialsKept s t ∧ EndsAfter s t 1) ∧
    (Answers .alt s fun t =>
      RegsKept s t ∧ MemKept s t ∧ PswChanged s t [(12, true)] ∧ SpecialsKept s t ∧ t.pc = s.pc + 1 ∧
      (s.plat.cpu = .type6 → t.mod = 0 ∧ t.modified = false) ∧ (s.plat.cpu ≠ .type6 → ModificationKept s t))

/-! ### The alternative set -/

/-- AAMOW, LAMOW, ALMOW with registers that do not overlap, where the transfers of each word go through: as many words as the count says are
copied one at a time in ascending order, the pointers advance by the count, the count ends at 0, and the exit is the second (R353, R355 to
R357; how a pointer and the count move: the spec's decisions D31, D47). -/
def Obligations.BlockMovesOfWordsCopyTheWords : Prop :=
  ∀ (s : State) (f1 f2 c : RegNum), f1 ≠ f2 → c ≠ f1 → c ≠ f2 →
    let n := (s.reg c).toNat
    let abs := fun (f : RegNum) (k : Nat) => (lowByte (s.reg (f + 1)), s.reg f + BitVec.ofNat 16 k)
    let own := fun (f : RegNum) (k : Nat) => (s.dataPage, s.base + s.reg f + BitVec.ofNat 16 k)
    let moves := fun (i : Instr) (src dst : Nat → Byte × Word) =>
      (∀ k < n, s.reaches (.abs (src k).1) (src k).2 ∧ s.reaches (.abs (dst k).1) (dst k).2) →
      let index := fun (place : Nat → Byte × Word) k => wordIndex (place k).1 (place k).2
      Answers i s fun t =>
        t.mem = copiedWords (index src) (index dst) n s.mem ∧ MemKeptOutside s t ((List.range n).map (index dst)) ∧
        (∀ q, t.reg q = if q = c then 0 else if q = f1 ∨ q = f2 then s.reg q + s.reg c else s.reg q) ∧
        SpecialsKept s t ∧ AltEnds s t 2
    (f1 + 1 ≠ f2 → f1 + 1 ≠ c → f2 + 1 ≠ f1 → f2 + 1 ≠ c → moves (.aamow f1 f2 c) (abs f1) (abs f2)) ∧
    (f2 + 1 ≠ f1 → f2 + 1 ≠ c → moves (.lamow f1 f2 c) (own f1) (abs f2)) ∧
    (f1 + 1 ≠ f2 → f1 + 1 ≠ c → moves (.almow f1 f2 c) (abs f1) (own f2))

/-- AAMOB, LAMOB, ALMOB with registers that do not overlap, where the transfers of each byte go through: as many bytes as the count says are
copied one at a time; a pointer of one byte or more ends with offset 0 or 1 in the high byte of its second register (R353, R358 to R360, R351,
R352, D46). -/
def Obligations.BlockMovesOfBytesCopyTheBytes : Prop :=
  ∀ (s : State) (f1 f2 c : RegNum), [f1, f1 + 1, f2, f2 + 1, c].Nodup →
    let n := (s.reg c).toNat
    let start := fun f : RegNum => 2 * (s.reg f).toNat + (highByte (s.reg (f + 1))).toNat
    let abs := fun (f : RegNum) (k : Nat) => (lowByte (s.reg (f + 1)), start f + k)
    let own := fun (f : RegNum) (k : Nat) => (s.dataPage, (2 * s.base.toNat + start f + k) % 131072)
    let moved := fun (t : State) (f : RegNum) =>
      t.reg f = BitVec.ofNat 16 ((start f + n) / 2) ∧ lowByte (t.reg (f + 1)) = lowByte (s.reg (f + 1)) ∧
      highByte (t.reg (f + 1)) = BitVec.ofNat 8 ((start f + n) % 2)
    let moves := fun (i : Instr) (src dst : Nat → Byte × Nat) =>
      (∀ k < n, s.reaches (.abs (src k).1) (byteWord (src k).2) ∧ s.reaches (.abs (dst k).1) (byteWord (dst k).2)) →
      let index := fun (place : Nat → Byte × Nat) k => byteIndex (place k).1 (place k).2
      Answers i s fun t =>
        t.mem = copiedBytes (index src) (index dst) n s.mem ∧
        (∀ b, b ∉ (List.range n).map (index dst) → t.mem.readByte b = s.mem.readByte b) ∧
        (if n = 0 then RegsKept s t
         else moved t f1 ∧ moved t f2 ∧ t.reg c = 0 ∧ ∀ q, q ∉ [f1, f1 + 1, f2, f2 + 1, c] → t.reg q = s.reg q) ∧
        SpecialsKept s t ∧ AltEnds s t 2
    moves (.aamob f1 f2 c) (abs f1) (abs f2) ∧ moves (.lamob f1 f2 c) (own f1) (abs f2) ∧ moves (.almob f1 f2 c) (abs f1) (own f2)

/-- The block moves, whatever registers they share, where the transfers of each unit they come to go through: units that follow R353 one after
another until the count register is 0, and then the second exit; or, where it is not 0 after 65536 units, a state at an interruption point,
which the next step goes on from (R353, R355 to R360, R393). The bound of a step is the model's choice (log 24). -/
def Obligations.BlockMovesRepeatTheirUnit : Prop :=
  ∀ (s : State) (f1 f2 c : RegNum),
    let repeats := fun (i : Instr) (unit : State → State) (failure : State → Option TransferKind) =>
      (∀ m < 65536, CountLasts unit c s m → failure (unit^[m] s) = none) →
      ∃ n ≤ 65536, (∀ m < n, (unit^[m] s).reg c ≠ 0) ∧
        if n = 65536 then exec i s = .next (unit^[n] s)
        else (unit^[n] s).reg c = 0 ∧ exec i s = .next ((unit^[n] s).altReturn 2)
    let words := fun (i : Instr) (src dst : State → Byte × Word) => repeats i (wordMoved src dst f1 f2 c) (unitFailure src dst)
    let bytes := fun (i : Instr) (src dst : State → Byte × Nat) =>
      repeats i (byteMoved src dst f1 f2 c) (unitFailure (inWord src) (inWord dst))
    words (.aamow f1 f2 c) (absWord f1) (absWord f2) ∧ words (.lamow f1 f2 c) (ownWord f1) (absWord f2) ∧
    words (.almow f1 f2 c) (absWord f1) (ownWord f2) ∧ bytes (.aamob f1 f2 c) (absByte f1) (absByte f2) ∧
    bytes (.lamob f1 f2 c) (ownByte f1) (absByte f2) ∧ bytes (.almob f1 f2 c) (absByte f1) (ownByte f2)

/-- AMOW and AMOB move one word or byte between absolute memory and a register, and leave by the second exit (R361, R362, R351, D49). On CPU
type 7 the cache statements leave the cache enabled where PSW bit 13 is 1. -/
def Obligations.AbsoluteMovesMoveOneWordOrByte : Prop :=
  ∀ (s : State) (f1 f2 : RegNum),
    let p := lowByte (s.reg (f1 + 1))
    let a := s.reg f1
    let ba := 2 * a.toNat + (highByte (s.reg (f1 + 1))).toNat
    let ends := fun t : State =>
      SpecialsKept { s with cacheOn := s.cacheOn || (decide (s.plat.cpu = .type7) && s.psw.getLsbD 13) } t ∧ AltEnds s t 2
    (s.reaches (.abs p) a →
      (Answers (.amowLoad f1 f2) s fun t => PlaceSet s t (.reg f2) (s.word p a) ∧ ends t) ∧
      (Answers (.amowStore f1 f2) s fun t => RegsKept s t ∧ WordSet s t p a (s.reg f2) ∧ ends t)) ∧
    (s.reaches (.abs p) (byteWord ba) →
      (Answers (.amobLoad f1 f2) s fun t => PlaceSet s t (.reg f2) (zext (s.byteAt p ba)) ∧ ends t) ∧
      (Answers (.amobStore f1 f2) s fun t => RegsKept s t ∧ ByteSet s t p ba (lowByte (s.reg f2)) ∧ ends t))

/-- ARESS sets a clear bit and leaves by the third exit, and leaves a set bit alone and leaves by the second; ARELS clears the bit (R363,
R364, R57; that the return clears PSW bit 12: the spec's decision D40). -/
def Obligations.AbsoluteReserveAndRelease : Prop :=
  ∀ (s : State) (f1 : RegNum) (c : BitVec 4),
    let p := lowByte (s.reg (f1 + 1))
    let a := s.reg f1
    let ends := fun (t : State) (n : Word) =>
      RegsKept s t ∧ AltEnds s t n ∧
      SpecialsKept { s with semBlock := false, cacheOn := s.cacheOn || (decide (s.plat.cpu = .type7) && s.psw.getLsbD 13) } t
    s.reaches (.abs p) a →
    ((s.word p a).getLsbD c.toNat = true → Answers (.aress f1 c) s fun t => MemKept s t ∧ ends t 2) ∧
    ((s.word p a).getLsbD c.toNat = false → Answers (.aress f1 c) s fun t =>
      (∃ v, BitChanged (s.word p a) v c.toNat true ∧ WordSet s t p a v) ∧ ends t 3) ∧
    (Answers (.arels f1 c) s fun t => (∃ v, BitChanged (s.word p a) v c.toNat false ∧ WordSet s t p a v) ∧ ends t 2)

/-- DRD and DWR transfer a word with a device and leave by the second exit (R365, R366). The waiting answers are the model's form of the
device (D32, log 16). -/
def Obligations.DeviceReadAndDeviceWrite : Prop :=
  ∀ (s : State) (f1 f2 : RegNum) (v : Word),
    let dev := s.reg f2 + s.mod
    let a := s.base + s.reg f1
    let reads := fun (i : Instr) (l : Loc) => Answers i s fun t =>
      PlaceSet s t l v ∧ SpecialsKept (s.transferred .drd dev (.ioIn .drd dev v)) t ∧ AltEnds s t 2
    let writes := fun (i : Instr) (w : Word) => Answers i s fun t =>
      RegsKept s t ∧ MemKept s t ∧ SpecialsKept (s.transferred .dwr dev (.ioOut .dwr dev w)) t ∧ AltEnds s t 2
    (s.deviceAnswers .drd dev v → reads (.drdR f1 f2) (.reg f1) ∧ (s.dataReaches a → reads (.drdX f1 f2) (.data a))) ∧
    (s.deviceAnswers .dwr dev v → writes (.dwrR f1 f2) (s.reg f1) ∧ (s.dataReaches a → writes (.dwrX f1 f2) (s.data a)))

/-- MRD and MWR read and write map memory, RSP and WSP the system program map register, RSP with zeros above, and each goes on to the next
location; on CPU type 8 MRD and MWR stop with an internal interrupt of cause 1, nothing changed (R367 to R370, R381). -/
def Obligations.MapInstructionsReadAndWrite : Prop :=
  ∀ (s : State) (f1 f2 : RegNum),
    let m := s.reg f2 + s.mod
    let a := s.base + s.reg f1
    let reads := fun (i : Instr) (l : Loc) (v : Word) => Answers i s fun t => PlaceSet s t l v ∧ SpecialsKept s t ∧ AltEnds s t 1
    let maps := fun (i : Instr) (w : Word) => Answers i s fun t =>
      RegsKept s t ∧ MemKept s t ∧ SpecialsKept { s with mapMem := t.mapMem } t ∧ AltEnds s t 1 ∧
      t.mapMem.readWord m.toNat = w ∧ ∀ b, b / 2 ≠ m.toNat → t.mapMem.readByte b = s.mapMem.readByte b
    let sets := fun (i : Instr) (w : Word) => Answers i s fun t =>
      RegsKept s t ∧ MemKept s t ∧ SpecialsKept { s with spm := lowByte w } t ∧ AltEnds s t 1
    (s.plat.cpu = .type8 → ∀ i ∈ [Instr.mrdR f1 f2, .mrdX f1 f2, .mwrR f1 f2, .mwrX f1 f2],
      exec i s = .fault (.internalInterrupt 1 s)) ∧
    (s.plat.cpu ≠ .type8 → s.reaches .mapMem m →
      reads (.mrdR f1 f2) (.reg f1) (s.mapMem.readWord m.toNat) ∧ maps (.mwrR f1 f2) (s.reg f1) ∧
      (s.dataReaches a → reads (.mrdX f1 f2) (.data a) (s.mapMem.readWord m.toNat) ∧ maps (.mwrX f1 f2) (s.data a))) ∧
    reads (.rspR f1) (.reg f1) (zext s.spm) ∧ sets (.wspR f1) (s.reg f1) ∧
    (s.dataReaches a → reads (.rspX f1) (.data a) (zext s.spm) ∧ sets (.wspX f1) (s.data a))

/-- ARSC puts the syndrome of the word in the register, a value that nothing constrains, and leaves memory as it is; ARED reads the word, and no
parity error stops it (R371, R372, D50; log 14, 30). -/
def Obligations.ErrorCorrectionInstructions : Prop :=
  ∀ (s : State) (f1 f2 : RegNum),
    let p := lowByte (s.reg (f1 + 1))
    let a := s.reg f1
    (s.reaches (.abs p) a → Answers (.arsc f1 f2) s fun t =>
      (∀ q, q ≠ f2 → t.reg q = s.reg q) ∧ MemKept s t ∧ SpecialsKept { s with semBlock := false } t ∧ AltEnds s t 1) ∧
    (transferFailure s.plat (.abs p) a ≠ some .timeOut → Answers (.ared f1 f2) s fun t =>
      PlaceSet s t (.reg f2) (s.word p a) ∧ SpecialsKept s t ∧ AltEnds s t 1)

/-- The error exit: an alternative instruction that has one, where a transfer of it fails, stores LOC at BASE+16 and the cause, 2 or 3, at
BASE+17, masks all interrupts, clears the modification and PSW bit 12, and goes on at the next location. Nothing else changes from the state
that it reached: none but the cache enable and semaphore blocking for AMOW, AMOB, ARESS and ARELS; the state at the start of the failing unit for
a block move, whichever unit fails and whether it is the read or the write; the answer used up where a device answered or failed to (R354,
R386). On CPU type 7 with PSW bit 13 set the cache stays disabled, as the statements before the transfer left it (log 27). That a transfer with
the own data page takes the exit too, in LAMOW, LAMOB, ALMOW, ALMOB, DRD X3 and DWR X3, is the model's reading (DEDUCED, log 28). -/
def Obligations.FailingTransferTakesTheErrorExit : Prop :=
  ∀ (s : State) (k : TransferKind), s.dataReaches (s.base + 16) → s.dataReaches (s.base + 17) →
    let exits := fun (i : Instr) (u : State) => Answers i s fun t =>
      RegsKept u t ∧
      WordsSet u t s.dataPage [(s.base + 16, s.pc), (s.base + 17, match k with | .parity => 2 | .timeOut => 3)] ∧
      PswChanged s t [(15, true), (14, true), (12, false)] ∧ SpecialsKept u t ∧ EndsAfter s t 1
    (∀ (f1 f2 : RegNum) (c : BitVec 4),
      let p := lowByte (s.reg (f1 + 1))
      let ba := 2 * (s.reg f1).toNat + (highByte (s.reg (f1 + 1))).toNat
      let off := { s with cacheOn := s.cacheOn && !(decide (s.plat.cpu = .type7) && s.psw.getLsbD 13) }
      (transferFailure s.plat (.abs p) (s.reg f1) = some k →
        exits (.amowLoad f1 f2) off ∧ exits (.amowStore f1 f2) off ∧
        exits (.aress f1 c) { off with semBlock := false } ∧ exits (.arels f1 c) { off with semBlock := false }) ∧
      (transferFailure s.plat (.abs p) (byteWord ba) = some k → exits (.amobLoad f1 f2) off ∧ exits (.amobStore f1 f2) off)) ∧
    (∀ (f1 f2 c : RegNum) (m : Nat), m < 65536 →
      let fails := fun (i : Instr) (unit : State → State) (failure : State → Option TransferKind) =>
        CountLasts unit c s m → (∀ j < m, failure (unit^[j] s) = none) → failure (unit^[m] s) = some k → exits i (unit^[m] s)
      let words := fun (i : Instr) (src dst : State → Byte × Word) => fails i (wordMoved src dst f1 f2 c) (unitFailure src dst)
      let bytes := fun (i : Instr) (src dst : State → Byte × Nat) =>
        fails i (byteMoved src dst f1 f2 c) (unitFailure (inWord src) (inWord dst))
      words (.aamow f1 f2 c) (absWord f1) (absWord f2) ∧ words (.lamow f1 f2 c) (ownWord f1) (absWord f2) ∧
      words (.almow f1 f2 c) (absWord f1) (ownWord f2) ∧ bytes (.aamob f1 f2 c) (absByte f1) (absByte f2) ∧
      bytes (.lamob f1 f2 c) (ownByte f1) (absByte f2) ∧ bytes (.almob f1 f2 c) (absByte f1) (ownByte f2)) ∧
    (∀ f1 f2 : RegNum,
      let dev := s.reg f2 + s.mod
      let a := s.base + s.reg f1
      let used := fun kind : IoKind => { s with ioReplies := (takeReply kind dev s.ioReplies).2 }
      (transferFailure s.plat .io dev = some k →
        exits (.drdR f1 f2) s ∧ exits (.drdX f1 f2) s ∧ exits (.dwrR f1 f2) s ∧ (s.dataReaches a → exits (.dwrX f1 f2) s)) ∧
      (s.reaches .io dev →
        ((takeReply .drd dev s.ioReplies).1 = .failed k → exits (.drdR f1 f2) (used .drd) ∧ exits (.drdX f1 f2) (used .drd)) ∧
        ((takeReply .dwr dev s.ioReplies).1 = .failed k → exits (.dwrR f1 f2) (used .dwr) ∧
          (s.dataReaches a → exits (.dwrX f1 f2) (used .dwr)))) ∧
      (transferFailure s.plat (.abs s.dataPage) a = some k →
        (∀ v, s.deviceAnswers .drd dev v → exits (.drdX f1 f2) (s.transferred .drd dev (.ioIn .drd dev v))) ∧
        exits (.dwrX f1 f2) s))

/-! ### Memory and operands -/

/-- A byte address names the low byte of its word where it is even and the high byte where it is odd, and writing one byte leaves the other;
a word written reads back, and no other word changes (R89, R90). -/
def Obligations.BytesAndWordsOfMemory : Prop :=
  ∀ (s : State) (p : Byte) (a v : Word) (b : Byte),
    ((s.putWord p a v).byteAt p (2 * a.toNat) = lowByte v ∧ (s.putWord p a v).byteAt p (2 * a.toNat + 1) = highByte v) ∧
    ((s.putByte p (2 * a.toNat) b).word p a = highByte (s.word p a) ++ b ∧
      (s.putByte p (2 * a.toNat + 1) b).word p a = b ++ lowByte (s.word p a)) ∧
    (∀ q e, (s.putWord p a v).word q e = if q = p ∧ e = a then v else s.word q e) ∧
    (s.mem.wf = true → (s.putWord p a v).mem.wf = true ∧ (s.putByte p (2 * a.toNat) b).mem.wf = true ∧
      (s.putByte p (2 * a.toNat + 1) b).mem.wf = true)
end

