-- ==== Sys2Proof/Laws/Bits.lean ====
section
/-! SUPPORT. Lemmas about bit fields and byte order. -/

namespace Sys2Proof.Machine

@[simp] theorem lowByte_wordOf (h l : Byte) : lowByte (wordOf h l) = l := by
  apply BitVec.eq_of_getLsbD_eq; intro i hi
  simp only [lowByte, wordOf, BitVec.getLsbD_extractLsb', BitVec.getLsbD_append, Nat.zero_add, hi, decide_true, Bool.true_and,
    if_true]

@[simp] theorem highByte_wordOf (h l : Byte) : highByte (wordOf h l) = h := by
  apply BitVec.eq_of_getLsbD_eq; intro i hi
  have h1 : ¬ 8 + i < 8 := by omega
  simp only [highByte, wordOf, BitVec.getLsbD_extractLsb', BitVec.getLsbD_append, hi, h1, decide_true, Bool.true_and,
    if_false, Nat.add_sub_cancel_left]

@[simp] theorem wordOf_bytes (w : Word) : wordOf (highByte w) (lowByte w) = w := by
  apply BitVec.eq_of_getLsbD_eq; intro i hi
  simp only [wordOf, highByte, lowByte, BitVec.getLsbD_append, BitVec.getLsbD_extractLsb']
  split
  · simp_all
  · have : 8 + (i - 8) = i := by omega
    simp_all; omega

/-- A bit of a word into which a field is inserted: the field's bit inside the field, the old bit outside. -/
theorem getLsbD_insertBits {n : Nat} (w : Word) (lo : Nat) (v : BitVec n) (i : Nat) (hi : i < 16) :
    (insertBits w lo v).getLsbD i = if lo ≤ i ∧ i < lo + n then v.getLsbD (i - lo) else w.getLsbD i := by
  simp only [insertBits, BitVec.getLsbD_or, BitVec.getLsbD_and, BitVec.getLsbD_not, BitVec.getLsbD_shiftLeft,
    BitVec.getLsbD_setWidth, BitVec.getLsbD_allOnes, hi, decide_true, Bool.true_and]
  by_cases h1 : lo ≤ i
  · by_cases h2 : i < lo + n
    · have h3 : ¬ i < lo := by omega
      have h4 : i - lo < n := by omega
      have h5 : i - lo < 16 := by omega
      simp [h1, h2, h3, h4, h5]
    · have h4 : ¬ i - lo < n := by omega
      have h6 : v.getLsbD (i - lo) = false := BitVec.getLsbD_of_ge _ _ (by omega)
      simp [h1, h2, h4, h6]
  · have h3 : i < lo := by omega
    simp [h1, h3]

/-- A bit of a word with one bit set. -/
theorem getLsbD_setBit (w : Word) (n i : Nat) (hi : i < 16) : (setBit w n).getLsbD i = (w.getLsbD i || decide (i = n)) := by
  simp only [setBit, BitVec.getLsbD_or, BitVec.getLsbD_shiftLeft, BitVec.getLsbD_one, hi, decide_true, Bool.true_and]
  by_cases h : i = n
  · simp [h]
  · by_cases h1 : i < n
    · simp [h, h1]
    · have : i - n ≠ 0 := by omega
      simp [h, h1, this]

/-- A bit of a word with one bit cleared. -/
theorem getLsbD_clearBit (w : Word) (n i : Nat) (hi : i < 16) : (clearBit w n).getLsbD i = (w.getLsbD i && decide (i ≠ n)) := by
  simp only [clearBit, BitVec.getLsbD_and, BitVec.getLsbD_not, BitVec.getLsbD_shiftLeft, BitVec.getLsbD_one, hi, decide_true,
    Bool.true_and]
  by_cases h : i = n
  · simp [h]
  · by_cases h1 : i < n
    · simp [h, h1]
    · have : i - n ≠ 0 := by omega
      simp [h, h1, this]

end Sys2Proof.Machine
end

