-- ==== Sys2Proof/Laws/Memory.lean ====
section
/-! SUPPORT. Memory: a read after a write, and the canonical form. -/

namespace Sys2Proof.Machine

/-! ### Reading after writing -/

theorem readCells_eraseCells (l : List Host.Cell) (a b : Nat) :
    readCells (eraseCells l a) b = if b = a then unlisted else readCells l b := by
  induction l with
  | nil => simp [eraseCells, readCells]
  | cons c t ih =>
    simp only [eraseCells]
    split
    · rename_i h; rw [ih]; simp only [readCells, h]; by_cases hb : a = b
      · simp [hb]
      · have : b ≠ a := fun e => hb e.symm
        simp [hb, this]
    · rename_i h
      simp only [readCells, ih]
      by_cases hc : c.1 = b
      · have : b ≠ a := by omega
        simp [hc, this]
      · simp [hc]

theorem readCells_insertCell (l : List Host.Cell) (c : Host.Cell) (b : Nat) (h : ∀ d ∈ l, d.1 ≠ c.1) :
    readCells (insertCell c l) b = if b = c.1 then c.2 else readCells l b := by
  induction l with
  | nil => simp only [insertCell, readCells, @eq_comm _ c.1 b]
  | cons d t ih =>
    simp only [insertCell]
    split
    · simp only [readCells, @eq_comm _ c.1 b]
    · rw [readCells, ih fun e he => h e (List.mem_cons_of_mem _ he)]
      have hd := h d List.mem_cons_self
      by_cases hb : b = c.1
      · subst hb; simp [hd]
      · simp [readCells, hb]

theorem ne_of_mem_eraseCells (l : List Host.Cell) (a : Nat) : ∀ d ∈ eraseCells l a, d.1 ≠ a := by
  induction l with
  | nil => simp [eraseCells]
  | cons c t ih =>
    intro d hd
    simp only [eraseCells] at hd
    split at hd
    · exact ih d hd
    · rcases List.mem_cons.mp hd with rfl | h
      · assumption
      · exact ih d h

/-- A byte read after a byte was written: the byte written at its address, the old byte elsewhere. -/
theorem readByte_writeByte (m : Memory) (a : Nat) (v : Byte) (b : Nat) :
    (m.writeByte a v).readByte b = if b = a then v else m.readByte b := by
  simp only [Memory.readByte, Memory.writeByte]
  split
  · rename_i h; subst h; exact readCells_eraseCells _ _ _
  · rw [readCells_insertCell _ _ _ (ne_of_mem_eraseCells _ _), readCells_eraseCells]
    by_cases hb : b = a <;> simp [hb]

/-- A byte read after a word was written. -/
theorem readByte_writeWord (m : Memory) (i : Nat) (v : Word) (b : Nat) :
    (m.writeWord i v).readByte b =
      if b = 2 * i + 1 then highByte v else if b = 2 * i then lowByte v else m.readByte b := by
  simp only [Memory.writeWord, readByte_writeByte]

/-- A byte outside the word written reads as before. -/
theorem readByte_writeWord_outside (m : Memory) (i : Nat) (v : Word) (b : Nat) (h : b / 2 ≠ i) :
    (m.writeWord i v).readByte b = m.readByte b := by
  rw [readByte_writeWord, if_neg (by omega), if_neg (by omega)]

/-- A word read after a word was written: the word written at its index, the old word elsewhere. -/
theorem readWord_writeWord (m : Memory) (i : Nat) (v : Word) (j : Nat) :
    (m.writeWord i v).readWord j = if j = i then v else m.readWord j := by
  simp only [Memory.readWord, readByte_writeWord]
  by_cases h : j = i
  · subst h
    simp
  · have h2 : 2 * j + 1 ≠ 2 * i := by omega
    have h3 : 2 * j ≠ 2 * i + 1 := by omega
    have h4 : 2 * j ≠ 2 * i := by omega
    simp [h, h2, h3, h4]

@[simp] theorem readWord_writeWord_same (m : Memory) (i : Nat) (v : Word) : (m.writeWord i v).readWord i = v := by
  simp [readWord_writeWord]

/-! ### The canonical form -/

theorem cellsWf_mono (l : List Host.Cell) (b b' : Nat) (h : b' ≤ b) (hl : cellsWf (some b) l = true) :
    cellsWf (some b') l = true := by
  cases l with
  | nil => rfl
  | cons c t => simp only [cellsWf, Bool.and_eq_true, decide_eq_true_eq] at *; exact ⟨⟨by omega, hl.1.2⟩, hl.2⟩

theorem cellsWf_none (l : List Host.Cell) (b : Nat) (hl : cellsWf (some b) l = true) : cellsWf none l = true := by
  cases l with
  | nil => rfl
  | cons c t => simp only [cellsWf, Bool.and_eq_true, decide_eq_true_eq] at *; exact ⟨⟨trivial, hl.1.2⟩, hl.2⟩

theorem cellsWf_eraseCells (l : List Host.Cell) (o : Option Nat) (a : Nat) (h : cellsWf o l = true) :
    cellsWf o (eraseCells l a) = true := by
  induction l generalizing o with
  | nil => rfl
  | cons c t ih =>
    simp only [cellsWf, Bool.and_eq_true] at h
    simp only [eraseCells]
    split
    · have := ih _ h.2
      cases o with
      | none => exact cellsWf_none _ _ this
      | some b =>
        have hb : b < c.1 := by simpa using h.1.1
        exact cellsWf_mono _ _ _ (by omega) this
    · simp only [cellsWf, Bool.and_eq_true]
      exact ⟨h.1, ih _ h.2⟩

theorem cellsWf_insertCell (l : List Host.Cell) (o : Option Nat) (c : Host.Cell) (h : cellsWf o l = true)
    (hc : c.2 ≠ unlisted) (hn : ∀ d ∈ l, d.1 ≠ c.1) (ho : ∀ b, o = some b → b < c.1) : cellsWf o (insertCell c l) = true := by
  induction l generalizing o with
  | nil =>
    cases o with
    | none => simp [insertCell, cellsWf, hc]
    | some b => simp [insertCell, cellsWf, hc, ho b rfl]
  | cons d t ih =>
    simp only [cellsWf, Bool.and_eq_true] at h
    simp only [insertCell]
    split
    · rename_i hlt
      simp only [cellsWf, Bool.and_eq_true]
      refine ⟨⟨?_, by simpa using hc⟩, ⟨by simpa using hlt, h.1.2⟩, h.2⟩
      cases o with
      | none => rfl
      | some b => simpa using ho b rfl
    · rename_i hlt
      have hne := hn d List.mem_cons_self
      simp only [cellsWf, Bool.and_eq_true]
      exact ⟨h.1, ih _ h.2 (fun e he => hn e (List.mem_cons_of_mem _ he)) (by intro b hb; cases hb; omega)⟩

/-- Writing a byte keeps the canonical form. -/
theorem wf_writeByte (m : Memory) (a : Nat) (v : Byte) (h : m.wf = true) : (m.writeByte a v).wf = true := by
  simp only [Memory.wf, Memory.writeByte] at *
  split
  · exact cellsWf_eraseCells _ _ _ h
  · rename_i hv
    exact cellsWf_insertCell _ _ _ (cellsWf_eraseCells _ _ _ h) hv (ne_of_mem_eraseCells _ _) (by simp)

/-- Writing a word keeps the canonical form. -/
theorem wf_writeWord (m : Memory) (i : Nat) (v : Word) (h : m.wf = true) : (m.writeWord i v).wf = true :=
  wf_writeByte _ _ _ (wf_writeByte _ _ _ h)

/-- The memories of the reset state are in canonical form. -/
theorem reset_wf : State.reset.mem.wf = true ∧ State.reset.mapMem.wf = true := by decide

/-! ### Word indexes -/

theorem wordIndex_inj (p q : Byte) (a b : Word) : wordIndex p a = wordIndex q b ↔ p = q ∧ a = b := by
  simp only [wordIndex]
  have := a.isLt; have := b.isLt; have := p.isLt; have := q.isLt
  constructor
  · intro h
    have h1 : p.toNat = q.toNat := by omega
    have h2 : a.toNat = b.toNat := by omega
    exact ⟨BitVec.eq_of_toNat_eq h1, BitVec.eq_of_toNat_eq h2⟩
  · rintro ⟨rfl, rfl⟩; rfl

end Sys2Proof.Machine
end

