-- ==== Sys2Proof/Laws/State.lean ====
section
/-! SUPPORT. One lemma per field for each named update of the state, true by rfl, so that no later proof unfolds a record update. -/

namespace Sys2Proof.Machine

/-! ### setReg -/

@[simp] theorem State.setReg_pc (s : State) (r : RegNum) (v : Word) : (s.setReg r v).pc = s.pc := rfl
@[simp] theorem State.setReg_base (s : State) (r : RegNum) (v : Word) : (s.setReg r v).base = s.base := rfl
@[simp] theorem State.setReg_prog (s : State) (r : RegNum) (v : Word) : (s.setReg r v).prog = s.prog := rfl
@[simp] theorem State.setReg_mod (s : State) (r : RegNum) (v : Word) : (s.setReg r v).mod = s.mod := rfl
@[simp] theorem State.setReg_modified (s : State) (r : RegNum) (v : Word) : (s.setReg r v).modified = s.modified := rfl
@[simp] theorem State.setReg_psw (s : State) (r : RegNum) (v : Word) : (s.setReg r v).psw = s.psw := rfl
@[simp] theorem State.setReg_timer (s : State) (r : RegNum) (v : Word) : (s.setReg r v).timer = s.timer := rfl
@[simp] theorem State.setReg_bound (s : State) (r : RegNum) (v : Word) : (s.setReg r v).bound = s.bound := rfl
@[simp] theorem State.setReg_level (s : State) (r : RegNum) (v : Word) : (s.setReg r v).level = s.level := rfl
@[simp] theorem State.setReg_umap (s : State) (r : RegNum) (v : Word) : (s.setReg r v).umap = s.umap := rfl
@[simp] theorem State.setReg_spm (s : State) (r : RegNum) (v : Word) : (s.setReg r v).spm = s.spm := rfl
@[simp] theorem State.setReg_cacheOn (s : State) (r : RegNum) (v : Word) : (s.setReg r v).cacheOn = s.cacheOn := rfl
@[simp] theorem State.setReg_semBlock (s : State) (r : RegNum) (v : Word) : (s.setReg r v).semBlock = s.semBlock := rfl
@[simp] theorem State.setReg_instr (s : State) (r : RegNum) (v : Word) : (s.setReg r v).instr = s.instr := rfl
@[simp] theorem State.setReg_awaitingNmi (s : State) (r : RegNum) (v : Word) : (s.setReg r v).awaitingNmi = s.awaitingNmi := rfl
@[simp] theorem State.setReg_mem (s : State) (r : RegNum) (v : Word) : (s.setReg r v).mem = s.mem := rfl
@[simp] theorem State.setReg_mapMem (s : State) (r : RegNum) (v : Word) : (s.setReg r v).mapMem = s.mapMem := rfl
@[simp] theorem State.setReg_ioReplies (s : State) (r : RegNum) (v : Word) : (s.setReg r v).ioReplies = s.ioReplies := rfl
@[simp] theorem State.setReg_trace (s : State) (r : RegNum) (v : Word) : (s.setReg r v).trace = s.trace := rfl
@[simp] theorem State.setReg_freeCtr (s : State) (r : RegNum) (v : Word) : (s.setReg r v).freeCtr = s.freeCtr := rfl
@[simp] theorem State.setReg_plat (s : State) (r : RegNum) (v : Word) : (s.setReg r v).plat = s.plat := rfl
@[simp] theorem State.setReg_dataPage (s : State) (r : RegNum) (v : Word) : (s.setReg r v).dataPage = s.dataPage := rfl
@[simp] theorem State.setReg_reaches (s : State) (r : RegNum) (v : Word) : (s.setReg r v).reaches = s.reaches := rfl
@[simp] theorem State.setReg_word (s : State) (r : RegNum) (v : Word) : (s.setReg r v).word = s.word := rfl

/-! ### clearModification -/

@[simp] theorem State.clearModification_x (s : State) : (s.clearModification).x = s.x := rfl
@[simp] theorem State.clearModification_pc (s : State) : (s.clearModification).pc = s.pc := rfl
@[simp] theorem State.clearModification_base (s : State) : (s.clearModification).base = s.base := rfl
@[simp] theorem State.clearModification_prog (s : State) : (s.clearModification).prog = s.prog := rfl
@[simp] theorem State.clearModification_mod (s : State) : (s.clearModification).mod = 0 := rfl
@[simp] theorem State.clearModification_modified (s : State) : (s.clearModification).modified = false := rfl
@[simp] theorem State.clearModification_psw (s : State) : (s.clearModification).psw = s.psw := rfl
@[simp] theorem State.clearModification_timer (s : State) : (s.clearModification).timer = s.timer := rfl
@[simp] theorem State.clearModification_bound (s : State) : (s.clearModification).bound = s.bound := rfl
@[simp] theorem State.clearModification_level (s : State) : (s.clearModification).level = s.level := rfl
@[simp] theorem State.clearModification_umap (s : State) : (s.clearModification).umap = s.umap := rfl
@[simp] theorem State.clearModification_spm (s : State) : (s.clearModification).spm = s.spm := rfl
@[simp] theorem State.clearModification_cacheOn (s : State) : (s.clearModification).cacheOn = s.cacheOn := rfl
@[simp] theorem State.clearModification_semBlock (s : State) : (s.clearModification).semBlock = s.semBlock := rfl
@[simp] theorem State.clearModification_instr (s : State) : (s.clearModification).instr = s.instr := rfl
@[simp] theorem State.clearModification_awaitingNmi (s : State) : (s.clearModification).awaitingNmi = s.awaitingNmi := rfl
@[simp] theorem State.clearModification_mem (s : State) : (s.clearModification).mem = s.mem := rfl
@[simp] theorem State.clearModification_mapMem (s : State) : (s.clearModification).mapMem = s.mapMem := rfl
@[simp] theorem State.clearModification_ioReplies (s : State) : (s.clearModification).ioReplies = s.ioReplies := rfl
@[simp] theorem State.clearModification_trace (s : State) : (s.clearModification).trace = s.trace := rfl
@[simp] theorem State.clearModification_freeCtr (s : State) : (s.clearModification).freeCtr = s.freeCtr := rfl
@[simp] theorem State.clearModification_plat (s : State) : (s.clearModification).plat = s.plat := rfl
@[simp] theorem State.clearModification_reg (s : State) (q : RegNum) : (s.clearModification).reg q = s.reg q := rfl
@[simp] theorem State.clearModification_dataPage (s : State) : (s.clearModification).dataPage = s.dataPage := rfl
@[simp] theorem State.clearModification_reaches (s : State) : (s.clearModification).reaches = s.reaches := rfl
@[simp] theorem State.clearModification_word (s : State) : (s.clearModification).word = s.word := rfl

/-! ### advance -/

@[simp] theorem State.advance_x (s : State) (n : Word) : (s.advance n).x = s.x := rfl
@[simp] theorem State.advance_pc (s : State) (n : Word) : (s.advance n).pc = s.pc + n := rfl
@[simp] theorem State.advance_base (s : State) (n : Word) : (s.advance n).base = s.base := rfl
@[simp] theorem State.advance_prog (s : State) (n : Word) : (s.advance n).prog = s.prog := rfl
@[simp] theorem State.advance_mod (s : State) (n : Word) : (s.advance n).mod = s.mod := rfl
@[simp] theorem State.advance_modified (s : State) (n : Word) : (s.advance n).modified = s.modified := rfl
@[simp] theorem State.advance_psw (s : State) (n : Word) : (s.advance n).psw = s.psw := rfl
@[simp] theorem State.advance_timer (s : State) (n : Word) : (s.advance n).timer = s.timer := rfl
@[simp] theorem State.advance_bound (s : State) (n : Word) : (s.advance n).bound = s.bound := rfl
@[simp] theorem State.advance_level (s : State) (n : Word) : (s.advance n).level = s.level := rfl
@[simp] theorem State.advance_umap (s : State) (n : Word) : (s.advance n).umap = s.umap := rfl
@[simp] theorem State.advance_spm (s : State) (n : Word) : (s.advance n).spm = s.spm := rfl
@[simp] theorem State.advance_cacheOn (s : State) (n : Word) : (s.advance n).cacheOn = s.cacheOn := rfl
@[simp] theorem State.advance_semBlock (s : State) (n : Word) : (s.advance n).semBlock = s.semBlock := rfl
@[simp] theorem State.advance_instr (s : State) (n : Word) : (s.advance n).instr = s.instr := rfl
@[simp] theorem State.advance_awaitingNmi (s : State) (n : Word) : (s.advance n).awaitingNmi = s.awaitingNmi := rfl
@[simp] theorem State.advance_mem (s : State) (n : Word) : (s.advance n).mem = s.mem := rfl
@[simp] theorem State.advance_mapMem (s : State) (n : Word) : (s.advance n).mapMem = s.mapMem := rfl
@[simp] theorem State.advance_ioReplies (s : State) (n : Word) : (s.advance n).ioReplies = s.ioReplies := rfl
@[simp] theorem State.advance_trace (s : State) (n : Word) : (s.advance n).trace = s.trace := rfl
@[simp] theorem State.advance_freeCtr (s : State) (n : Word) : (s.advance n).freeCtr = s.freeCtr := rfl
@[simp] theorem State.advance_plat (s : State) (n : Word) : (s.advance n).plat = s.plat := rfl
@[simp] theorem State.advance_reg (s : State) (n : Word) (q : RegNum) : (s.advance n).reg q = s.reg q := rfl
@[simp] theorem State.advance_dataPage (s : State) (n : Word) : (s.advance n).dataPage = s.dataPage := rfl
@[simp] theorem State.advance_reaches (s : State) (n : Word) : (s.advance n).reaches = s.reaches := rfl
@[simp] theorem State.advance_word (s : State) (n : Word) : (s.advance n).word = s.word := rfl

/-! ### finish -/

@[simp] theorem State.finish_x (s : State) : (s.finish).x = s.x := rfl
@[simp] theorem State.finish_pc (s : State) : (s.finish).pc = s.pc + 1 := rfl
@[simp] theorem State.finish_base (s : State) : (s.finish).base = s.base := rfl
@[simp] theorem State.finish_prog (s : State) : (s.finish).prog = s.prog := rfl
@[simp] theorem State.finish_mod (s : State) : (s.finish).mod = 0 := rfl
@[simp] theorem State.finish_modified (s : State) : (s.finish).modified = false := rfl
@[simp] theorem State.finish_psw (s : State) : (s.finish).psw = s.psw := rfl
@[simp] theorem State.finish_timer (s : State) : (s.finish).timer = s.timer := rfl
@[simp] theorem State.finish_bound (s : State) : (s.finish).bound = s.bound := rfl
@[simp] theorem State.finish_level (s : State) : (s.finish).level = s.level := rfl
@[simp] theorem State.finish_umap (s : State) : (s.finish).umap = s.umap := rfl
@[simp] theorem State.finish_spm (s : State) : (s.finish).spm = s.spm := rfl
@[simp] theorem State.finish_cacheOn (s : State) : (s.finish).cacheOn = s.cacheOn := rfl
@[simp] theorem State.finish_semBlock (s : State) : (s.finish).semBlock = s.semBlock := rfl
@[simp] theorem State.finish_instr (s : State) : (s.finish).instr = s.instr := rfl
@[simp] theorem State.finish_awaitingNmi (s : State) : (s.finish).awaitingNmi = s.awaitingNmi := rfl
@[simp] theorem State.finish_mem (s : State) : (s.finish).mem = s.mem := rfl
@[simp] theorem State.finish_mapMem (s : State) : (s.finish).mapMem = s.mapMem := rfl
@[simp] theorem State.finish_ioReplies (s : State) : (s.finish).ioReplies = s.ioReplies := rfl
@[simp] theorem State.finish_trace (s : State) : (s.finish).trace = s.trace := rfl
@[simp] theorem State.finish_freeCtr (s : State) : (s.finish).freeCtr = s.freeCtr := rfl
@[simp] theorem State.finish_plat (s : State) : (s.finish).plat = s.plat := rfl
@[simp] theorem State.finish_reg (s : State) (q : RegNum) : (s.finish).reg q = s.reg q := rfl
@[simp] theorem State.finish_dataPage (s : State) : (s.finish).dataPage = s.dataPage := rfl
@[simp] theorem State.finish_reaches (s : State) : (s.finish).reaches = s.reaches := rfl
@[simp] theorem State.finish_word (s : State) : (s.finish).word = s.word := rfl

/-! ### jumpTo -/

@[simp] theorem State.jumpTo_x (s : State) (a : Word) : (s.jumpTo a).x = s.x := rfl
@[simp] theorem State.jumpTo_pc (s : State) (a : Word) : (s.jumpTo a).pc = a := rfl
@[simp] theorem State.jumpTo_base (s : State) (a : Word) : (s.jumpTo a).base = s.base := rfl
@[simp] theorem State.jumpTo_prog (s : State) (a : Word) : (s.jumpTo a).prog = s.prog := rfl
@[simp] theorem State.jumpTo_mod (s : State) (a : Word) : (s.jumpTo a).mod = 0 := rfl
@[simp] theorem State.jumpTo_modified (s : State) (a : Word) : (s.jumpTo a).modified = false := rfl
@[simp] theorem State.jumpTo_psw (s : State) (a : Word) : (s.jumpTo a).psw = s.psw := rfl
@[simp] theorem State.jumpTo_timer (s : State) (a : Word) : (s.jumpTo a).timer = s.timer := rfl
@[simp] theorem State.jumpTo_bound (s : State) (a : Word) : (s.jumpTo a).bound = s.bound := rfl
@[simp] theorem State.jumpTo_level (s : State) (a : Word) : (s.jumpTo a).level = s.level := rfl
@[simp] theorem State.jumpTo_umap (s : State) (a : Word) : (s.jumpTo a).umap = s.umap := rfl
@[simp] theorem State.jumpTo_spm (s : State) (a : Word) : (s.jumpTo a).spm = s.spm := rfl
@[simp] theorem State.jumpTo_cacheOn (s : State) (a : Word) : (s.jumpTo a).cacheOn = s.cacheOn := rfl
@[simp] theorem State.jumpTo_semBlock (s : State) (a : Word) : (s.jumpTo a).semBlock = s.semBlock := rfl
@[simp] theorem State.jumpTo_instr (s : State) (a : Word) : (s.jumpTo a).instr = s.instr := rfl
@[simp] theorem State.jumpTo_awaitingNmi (s : State) (a : Word) : (s.jumpTo a).awaitingNmi = s.awaitingNmi := rfl
@[simp] theorem State.jumpTo_mem (s : State) (a : Word) : (s.jumpTo a).mem = s.mem := rfl
@[simp] theorem State.jumpTo_mapMem (s : State) (a : Word) : (s.jumpTo a).mapMem = s.mapMem := rfl
@[simp] theorem State.jumpTo_ioReplies (s : State) (a : Word) : (s.jumpTo a).ioReplies = s.ioReplies := rfl
@[simp] theorem State.jumpTo_trace (s : State) (a : Word) : (s.jumpTo a).trace = s.trace := rfl
@[simp] theorem State.jumpTo_freeCtr (s : State) (a : Word) : (s.jumpTo a).freeCtr = s.freeCtr := rfl
@[simp] theorem State.jumpTo_plat (s : State) (a : Word) : (s.jumpTo a).plat = s.plat := rfl
@[simp] theorem State.jumpTo_reg (s : State) (a : Word) (q : RegNum) : (s.jumpTo a).reg q = s.reg q := rfl
@[simp] theorem State.jumpTo_dataPage (s : State) (a : Word) : (s.jumpTo a).dataPage = s.dataPage := rfl
@[simp] theorem State.jumpTo_reaches (s : State) (a : Word) : (s.jumpTo a).reaches = s.reaches := rfl
@[simp] theorem State.jumpTo_word (s : State) (a : Word) : (s.jumpTo a).word = s.word := rfl

/-! ### skip -/

@[simp] theorem State.skip_x (s : State) (c p : Bool) : (s.skip c p).x = s.x := rfl
@[simp] theorem State.skip_pc (s : State) (c p : Bool) : (s.skip c p).pc = s.pc + (if c then (if p then 3 else 2) else 1) := rfl
@[simp] theorem State.skip_base (s : State) (c p : Bool) : (s.skip c p).base = s.base := rfl
@[simp] theorem State.skip_prog (s : State) (c p : Bool) : (s.skip c p).prog = s.prog := rfl
@[simp] theorem State.skip_mod (s : State) (c p : Bool) : (s.skip c p).mod = 0 := rfl
@[simp] theorem State.skip_modified (s : State) (c p : Bool) : (s.skip c p).modified = false := rfl
@[simp] theorem State.skip_psw (s : State) (c p : Bool) : (s.skip c p).psw = s.psw := rfl
@[simp] theorem State.skip_timer (s : State) (c p : Bool) : (s.skip c p).timer = s.timer := rfl
@[simp] theorem State.skip_bound (s : State) (c p : Bool) : (s.skip c p).bound = s.bound := rfl
@[simp] theorem State.skip_level (s : State) (c p : Bool) : (s.skip c p).level = s.level := rfl
@[simp] theorem State.skip_umap (s : State) (c p : Bool) : (s.skip c p).umap = s.umap := rfl
@[simp] theorem State.skip_spm (s : State) (c p : Bool) : (s.skip c p).spm = s.spm := rfl
@[simp] theorem State.skip_cacheOn (s : State) (c p : Bool) : (s.skip c p).cacheOn = s.cacheOn := rfl
@[simp] theorem State.skip_semBlock (s : State) (c p : Bool) : (s.skip c p).semBlock = s.semBlock := rfl
@[simp] theorem State.skip_instr (s : State) (c p : Bool) : (s.skip c p).instr = s.instr := rfl
@[simp] theorem State.skip_awaitingNmi (s : State) (c p : Bool) : (s.skip c p).awaitingNmi = s.awaitingNmi := rfl
@[simp] theorem State.skip_mem (s : State) (c p : Bool) : (s.skip c p).mem = s.mem := rfl
@[simp] theorem State.skip_mapMem (s : State) (c p : Bool) : (s.skip c p).mapMem = s.mapMem := rfl
@[simp] theorem State.skip_ioReplies (s : State) (c p : Bool) : (s.skip c p).ioReplies = s.ioReplies := rfl
@[simp] theorem State.skip_trace (s : State) (c p : Bool) : (s.skip c p).trace = s.trace := rfl
@[simp] theorem State.skip_freeCtr (s : State) (c p : Bool) : (s.skip c p).freeCtr = s.freeCtr := rfl
@[simp] theorem State.skip_plat (s : State) (c p : Bool) : (s.skip c p).plat = s.plat := rfl
@[simp] theorem State.skip_reg (s : State) (c p : Bool) (q : RegNum) : (s.skip c p).reg q = s.reg q := rfl
@[simp] theorem State.skip_dataPage (s : State) (c p : Bool) : (s.skip c p).dataPage = s.dataPage := rfl
@[simp] theorem State.skip_reaches (s : State) (c p : Bool) : (s.skip c p).reaches = s.reaches := rfl
@[simp] theorem State.skip_word (s : State) (c p : Bool) : (s.skip c p).word = s.word := rfl

/-! ### modify -/

@[simp] theorem State.modify_x (s : State) (v : Word) : (s.modify v).x = s.x := rfl
@[simp] theorem State.modify_pc (s : State) (v : Word) : (s.modify v).pc = s.pc + 1 := rfl
@[simp] theorem State.modify_base (s : State) (v : Word) : (s.modify v).base = s.base := rfl
@[simp] theorem State.modify_prog (s : State) (v : Word) : (s.modify v).prog = s.prog := rfl
@[simp] theorem State.modify_mod (s : State) (v : Word) : (s.modify v).mod = s.mod + v := rfl
@[simp] theorem State.modify_modified (s : State) (v : Word) : (s.modify v).modified = true := rfl
@[simp] theorem State.modify_psw (s : State) (v : Word) : (s.modify v).psw = s.psw := rfl
@[simp] theorem State.modify_timer (s : State) (v : Word) : (s.modify v).timer = s.timer := rfl
@[simp] theorem State.modify_bound (s : State) (v : Word) : (s.modify v).bound = s.bound := rfl
@[simp] theorem State.modify_level (s : State) (v : Word) : (s.modify v).level = s.level := rfl
@[simp] theorem State.modify_umap (s : State) (v : Word) : (s.modify v).umap = s.umap := rfl
@[simp] theorem State.modify_spm (s : State) (v : Word) : (s.modify v).spm = s.spm := rfl
@[simp] theorem State.modify_cacheOn (s : State) (v : Word) : (s.modify v).cacheOn = s.cacheOn := rfl
@[simp] theorem State.modify_semBlock (s : State) (v : Word) : (s.modify v).semBlock = s.semBlock := rfl
@[simp] theorem State.modify_instr (s : State) (v : Word) : (s.modify v).instr = s.instr := rfl
@[simp] theorem State.modify_awaitingNmi (s : State) (v : Word) : (s.modify v).awaitingNmi = s.awaitingNmi := rfl
@[simp] theorem State.modify_mem (s : State) (v : Word) : (s.modify v).mem = s.mem := rfl
@[simp] theorem State.modify_mapMem (s : State) (v : Word) : (s.modify v).mapMem = s.mapMem := rfl
@[simp] theorem State.modify_ioReplies (s : State) (v : Word) : (s.modify v).ioReplies = s.ioReplies := rfl
@[simp] theorem State.modify_trace (s : State) (v : Word) : (s.modify v).trace = s.trace := rfl
@[simp] theorem State.modify_freeCtr (s : State) (v : Word) : (s.modify v).freeCtr = s.freeCtr := rfl
@[simp] theorem State.modify_plat (s : State) (v : Word) : (s.modify v).plat = s.plat := rfl
@[simp] theorem State.modify_reg (s : State) (v : Word) (q : RegNum) : (s.modify v).reg q = s.reg q := rfl
@[simp] theorem State.modify_dataPage (s : State) (v : Word) : (s.modify v).dataPage = s.dataPage := rfl
@[simp] theorem State.modify_reaches (s : State) (v : Word) : (s.modify v).reaches = s.reaches := rfl
@[simp] theorem State.modify_word (s : State) (v : Word) : (s.modify v).word = s.word := rfl

/-! ### setPg -/

@[simp] theorem State.setPg_x (s : State) (b : Bool) : (s.setPg b).x = s.x := rfl
@[simp] theorem State.setPg_pc (s : State) (b : Bool) : (s.setPg b).pc = s.pc := rfl
@[simp] theorem State.setPg_base (s : State) (b : Bool) : (s.setPg b).base = s.base := rfl
@[simp] theorem State.setPg_prog (s : State) (b : Bool) : (s.setPg b).prog = s.prog := rfl
@[simp] theorem State.setPg_mod (s : State) (b : Bool) : (s.setPg b).mod = s.mod := rfl
@[simp] theorem State.setPg_modified (s : State) (b : Bool) : (s.setPg b).modified = s.modified := rfl
@[simp] theorem State.setPg_psw (s : State) (b : Bool) : (s.setPg b).psw = insertBits s.psw 0 (BitVec.ofBool b) := rfl
@[simp] theorem State.setPg_timer (s : State) (b : Bool) : (s.setPg b).timer = s.timer := rfl
@[simp] theorem State.setPg_bound (s : State) (b : Bool) : (s.setPg b).bound = s.bound := rfl
@[simp] theorem State.setPg_level (s : State) (b : Bool) : (s.setPg b).level = s.level := rfl
@[simp] theorem State.setPg_umap (s : State) (b : Bool) : (s.setPg b).umap = s.umap := rfl
@[simp] theorem State.setPg_spm (s : State) (b : Bool) : (s.setPg b).spm = s.spm := rfl
@[simp] theorem State.setPg_cacheOn (s : State) (b : Bool) : (s.setPg b).cacheOn = s.cacheOn := rfl
@[simp] theorem State.setPg_semBlock (s : State) (b : Bool) : (s.setPg b).semBlock = s.semBlock := rfl
@[simp] theorem State.setPg_instr (s : State) (b : Bool) : (s.setPg b).instr = s.instr := rfl
@[simp] theorem State.setPg_awaitingNmi (s : State) (b : Bool) : (s.setPg b).awaitingNmi = s.awaitingNmi := rfl
@[simp] theorem State.setPg_mem (s : State) (b : Bool) : (s.setPg b).mem = s.mem := rfl
@[simp] theorem State.setPg_mapMem (s : State) (b : Bool) : (s.setPg b).mapMem = s.mapMem := rfl
@[simp] theorem State.setPg_ioReplies (s : State) (b : Bool) : (s.setPg b).ioReplies = s.ioReplies := rfl
@[simp] theorem State.setPg_trace (s : State) (b : Bool) : (s.setPg b).trace = s.trace := rfl
@[simp] theorem State.setPg_freeCtr (s : State) (b : Bool) : (s.setPg b).freeCtr = s.freeCtr := rfl
@[simp] theorem State.setPg_plat (s : State) (b : Bool) : (s.setPg b).plat = s.plat := rfl
@[simp] theorem State.setPg_reg (s : State) (b : Bool) (q : RegNum) : (s.setPg b).reg q = s.reg q := rfl
@[simp] theorem State.setPg_dataPage (s : State) (b : Bool) : (s.setPg b).dataPage = s.dataPage := rfl
@[simp] theorem State.setPg_reaches (s : State) (b : Bool) : (s.setPg b).reaches = s.reaches := rfl
@[simp] theorem State.setPg_word (s : State) (b : Bool) : (s.setPg b).word = s.word := rfl

/-! ### setAlt -/

@[simp] theorem State.setAlt_x (s : State) (b : Bool) : (s.setAlt b).x = s.x := rfl
@[simp] theorem State.setAlt_pc (s : State) (b : Bool) : (s.setAlt b).pc = s.pc := rfl
@[simp] theorem State.setAlt_base (s : State) (b : Bool) : (s.setAlt b).base = s.base := rfl
@[simp] theorem State.setAlt_prog (s : State) (b : Bool) : (s.setAlt b).prog = s.prog := rfl
@[simp] theorem State.setAlt_mod (s : State) (b : Bool) : (s.setAlt b).mod = s.mod := rfl
@[simp] theorem State.setAlt_modified (s : State) (b : Bool) : (s.setAlt b).modified = s.modified := rfl
@[simp] theorem State.setAlt_psw (s : State) (b : Bool) : (s.setAlt b).psw = insertBits s.psw 12 (BitVec.ofBool b) := rfl
@[simp] theorem State.setAlt_timer (s : State) (b : Bool) : (s.setAlt b).timer = s.timer := rfl
@[simp] theorem State.setAlt_bound (s : State) (b : Bool) : (s.setAlt b).bound = s.bound := rfl
@[simp] theorem State.setAlt_level (s : State) (b : Bool) : (s.setAlt b).level = s.level := rfl
@[simp] theorem State.setAlt_umap (s : State) (b : Bool) : (s.setAlt b).umap = s.umap := rfl
@[simp] theorem State.setAlt_spm (s : State) (b : Bool) : (s.setAlt b).spm = s.spm := rfl
@[simp] theorem State.setAlt_cacheOn (s : State) (b : Bool) : (s.setAlt b).cacheOn = s.cacheOn := rfl
@[simp] theorem State.setAlt_semBlock (s : State) (b : Bool) : (s.setAlt b).semBlock = s.semBlock := rfl
@[simp] theorem State.setAlt_instr (s : State) (b : Bool) : (s.setAlt b).instr = s.instr := rfl
@[simp] theorem State.setAlt_awaitingNmi (s : State) (b : Bool) : (s.setAlt b).awaitingNmi = s.awaitingNmi := rfl
@[simp] theorem State.setAlt_mem (s : State) (b : Bool) : (s.setAlt b).mem = s.mem := rfl
@[simp] theorem State.setAlt_mapMem (s : State) (b : Bool) : (s.setAlt b).mapMem = s.mapMem := rfl
@[simp] theorem State.setAlt_ioReplies (s : State) (b : Bool) : (s.setAlt b).ioReplies = s.ioReplies := rfl
@[simp] theorem State.setAlt_trace (s : State) (b : Bool) : (s.setAlt b).trace = s.trace := rfl
@[simp] theorem State.setAlt_freeCtr (s : State) (b : Bool) : (s.setAlt b).freeCtr = s.freeCtr := rfl
@[simp] theorem State.setAlt_plat (s : State) (b : Bool) : (s.setAlt b).plat = s.plat := rfl
@[simp] theorem State.setAlt_reg (s : State) (b : Bool) (q : RegNum) : (s.setAlt b).reg q = s.reg q := rfl
@[simp] theorem State.setAlt_dataPage (s : State) (b : Bool) : (s.setAlt b).dataPage = s.dataPage := rfl
@[simp] theorem State.setAlt_reaches (s : State) (b : Bool) : (s.setAlt b).reaches = s.reaches := rfl
@[simp] theorem State.setAlt_word (s : State) (b : Bool) : (s.setAlt b).word = s.word := rfl

/-! ### setMask -/

@[simp] theorem State.setMask_x (s : State) (m : BitVec 2) : (s.setMask m).x = s.x := rfl
@[simp] theorem State.setMask_pc (s : State) (m : BitVec 2) : (s.setMask m).pc = s.pc := rfl
@[simp] theorem State.setMask_base (s : State) (m : BitVec 2) : (s.setMask m).base = s.base := rfl
@[simp] theorem State.setMask_prog (s : State) (m : BitVec 2) : (s.setMask m).prog = s.prog := rfl
@[simp] theorem State.setMask_mod (s : State) (m : BitVec 2) : (s.setMask m).mod = s.mod := rfl
@[simp] theorem State.setMask_modified (s : State) (m : BitVec 2) : (s.setMask m).modified = s.modified := rfl
@[simp] theorem State.setMask_psw (s : State) (m : BitVec 2) : (s.setMask m).psw = insertBits s.psw 14 m := rfl
@[simp] theorem State.setMask_timer (s : State) (m : BitVec 2) : (s.setMask m).timer = s.timer := rfl
@[simp] theorem State.setMask_bound (s : State) (m : BitVec 2) : (s.setMask m).bound = s.bound := rfl
@[simp] theorem State.setMask_level (s : State) (m : BitVec 2) : (s.setMask m).level = s.level := rfl
@[simp] theorem State.setMask_umap (s : State) (m : BitVec 2) : (s.setMask m).umap = s.umap := rfl
@[simp] theorem State.setMask_spm (s : State) (m : BitVec 2) : (s.setMask m).spm = s.spm := rfl
@[simp] theorem State.setMask_cacheOn (s : State) (m : BitVec 2) : (s.setMask m).cacheOn = s.cacheOn := rfl
@[simp] theorem State.setMask_semBlock (s : State) (m : BitVec 2) : (s.setMask m).semBlock = s.semBlock := rfl
@[simp] theorem State.setMask_instr (s : State) (m : BitVec 2) : (s.setMask m).instr = s.instr := rfl
@[simp] theorem State.setMask_awaitingNmi (s : State) (m : BitVec 2) : (s.setMask m).awaitingNmi = s.awaitingNmi := rfl
@[simp] theorem State.setMask_mem (s : State) (m : BitVec 2) : (s.setMask m).mem = s.mem := rfl
@[simp] theorem State.setMask_mapMem (s : State) (m : BitVec 2) : (s.setMask m).mapMem = s.mapMem := rfl
@[simp] theorem State.setMask_ioReplies (s : State) (m : BitVec 2) : (s.setMask m).ioReplies = s.ioReplies := rfl
@[simp] theorem State.setMask_trace (s : State) (m : BitVec 2) : (s.setMask m).trace = s.trace := rfl
@[simp] theorem State.setMask_freeCtr (s : State) (m : BitVec 2) : (s.setMask m).freeCtr = s.freeCtr := rfl
@[simp] theorem State.setMask_plat (s : State) (m : BitVec 2) : (s.setMask m).plat = s.plat := rfl
@[simp] theorem State.setMask_reg (s : State) (m : BitVec 2) (q : RegNum) : (s.setMask m).reg q = s.reg q := rfl
@[simp] theorem State.setMask_dataPage (s : State) (m : BitVec 2) : (s.setMask m).dataPage = s.dataPage := rfl
@[simp] theorem State.setMask_reaches (s : State) (m : BitVec 2) : (s.setMask m).reaches = s.reaches := rfl
@[simp] theorem State.setMask_word (s : State) (m : BitVec 2) : (s.setMask m).word = s.word := rfl

/-! ### setLevelFlag -/

@[simp] theorem State.setLevelFlag_x (s : State) (b : Bool) : (s.setLevelFlag b).x = s.x := rfl
@[simp] theorem State.setLevelFlag_pc (s : State) (b : Bool) : (s.setLevelFlag b).pc = s.pc := rfl
@[simp] theorem State.setLevelFlag_base (s : State) (b : Bool) : (s.setLevelFlag b).base = s.base := rfl
@[simp] theorem State.setLevelFlag_prog (s : State) (b : Bool) : (s.setLevelFlag b).prog = s.prog := rfl
@[simp] theorem State.setLevelFlag_mod (s : State) (b : Bool) : (s.setLevelFlag b).mod = s.mod := rfl
@[simp] theorem State.setLevelFlag_modified (s : State) (b : Bool) : (s.setLevelFlag b).modified = s.modified := rfl
@[simp] theorem State.setLevelFlag_psw (s : State) (b : Bool) : (s.setLevelFlag b).psw = s.psw := rfl
@[simp] theorem State.setLevelFlag_timer (s : State) (b : Bool) : (s.setLevelFlag b).timer = s.timer := rfl
@[simp] theorem State.setLevelFlag_bound (s : State) (b : Bool) : (s.setLevelFlag b).bound = s.bound := rfl
@[simp] theorem State.setLevelFlag_level (s : State) (b : Bool) : (s.setLevelFlag b).level = insertBits s.level 15 (BitVec.ofBool b) := rfl
@[simp] theorem State.setLevelFlag_umap (s : State) (b : Bool) : (s.setLevelFlag b).umap = s.umap := rfl
@[simp] theorem State.setLevelFlag_spm (s : State) (b : Bool) : (s.setLevelFlag b).spm = s.spm := rfl
@[simp] theorem State.setLevelFlag_cacheOn (s : State) (b : Bool) : (s.setLevelFlag b).cacheOn = s.cacheOn := rfl
@[simp] theorem State.setLevelFlag_semBlock (s : State) (b : Bool) : (s.setLevelFlag b).semBlock = s.semBlock := rfl
@[simp] theorem State.setLevelFlag_instr (s : State) (b : Bool) : (s.setLevelFlag b).instr = s.instr := rfl
@[simp] theorem State.setLevelFlag_awaitingNmi (s : State) (b : Bool) : (s.setLevelFlag b).awaitingNmi = s.awaitingNmi := rfl
@[simp] theorem State.setLevelFlag_mem (s : State) (b : Bool) : (s.setLevelFlag b).mem = s.mem := rfl
@[simp] theorem State.setLevelFlag_mapMem (s : State) (b : Bool) : (s.setLevelFlag b).mapMem = s.mapMem := rfl
@[simp] theorem State.setLevelFlag_ioReplies (s : State) (b : Bool) : (s.setLevelFlag b).ioReplies = s.ioReplies := rfl
@[simp] theorem State.setLevelFlag_trace (s : State) (b : Bool) : (s.setLevelFlag b).trace = s.trace := rfl
@[simp] theorem State.setLevelFlag_freeCtr (s : State) (b : Bool) : (s.setLevelFlag b).freeCtr = s.freeCtr := rfl
@[simp] theorem State.setLevelFlag_plat (s : State) (b : Bool) : (s.setLevelFlag b).plat = s.plat := rfl
@[simp] theorem State.setLevelFlag_reg (s : State) (b : Bool) (q : RegNum) : (s.setLevelFlag b).reg q = s.reg q := rfl
@[simp] theorem State.setLevelFlag_dataPage (s : State) (b : Bool) : (s.setLevelFlag b).dataPage = s.dataPage := rfl
@[simp] theorem State.setLevelFlag_reaches (s : State) (b : Bool) : (s.setLevelFlag b).reaches = s.reaches := rfl
@[simp] theorem State.setLevelFlag_word (s : State) (b : Bool) : (s.setLevelFlag b).word = s.word := rfl

/-! ### drawn -/

@[simp] theorem State.drawn_x (s : State) (n : Nat) : (s.drawn n).x = s.x := rfl
@[simp] theorem State.drawn_pc (s : State) (n : Nat) : (s.drawn n).pc = s.pc := rfl
@[simp] theorem State.drawn_base (s : State) (n : Nat) : (s.drawn n).base = s.base := rfl
@[simp] theorem State.drawn_prog (s : State) (n : Nat) : (s.drawn n).prog = s.prog := rfl
@[simp] theorem State.drawn_mod (s : State) (n : Nat) : (s.drawn n).mod = s.mod := rfl
@[simp] theorem State.drawn_modified (s : State) (n : Nat) : (s.drawn n).modified = s.modified := rfl
@[simp] theorem State.drawn_psw (s : State) (n : Nat) : (s.drawn n).psw = s.psw := rfl
@[simp] theorem State.drawn_timer (s : State) (n : Nat) : (s.drawn n).timer = s.timer := rfl
@[simp] theorem State.drawn_bound (s : State) (n : Nat) : (s.drawn n).bound = s.bound := rfl
@[simp] theorem State.drawn_level (s : State) (n : Nat) : (s.drawn n).level = s.level := rfl
@[simp] theorem State.drawn_umap (s : State) (n : Nat) : (s.drawn n).umap = s.umap := rfl
@[simp] theorem State.drawn_spm (s : State) (n : Nat) : (s.drawn n).spm = s.spm := rfl
@[simp] theorem State.drawn_cacheOn (s : State) (n : Nat) : (s.drawn n).cacheOn = s.cacheOn := rfl
@[simp] theorem State.drawn_semBlock (s : State) (n : Nat) : (s.drawn n).semBlock = s.semBlock := rfl
@[simp] theorem State.drawn_instr (s : State) (n : Nat) : (s.drawn n).instr = s.instr := rfl
@[simp] theorem State.drawn_awaitingNmi (s : State) (n : Nat) : (s.drawn n).awaitingNmi = s.awaitingNmi := rfl
@[simp] theorem State.drawn_mem (s : State) (n : Nat) : (s.drawn n).mem = s.mem := rfl
@[simp] theorem State.drawn_mapMem (s : State) (n : Nat) : (s.drawn n).mapMem = s.mapMem := rfl
@[simp] theorem State.drawn_ioReplies (s : State) (n : Nat) : (s.drawn n).ioReplies = s.ioReplies := rfl
@[simp] theorem State.drawn_trace (s : State) (n : Nat) : (s.drawn n).trace = s.trace := rfl
@[simp] theorem State.drawn_freeCtr (s : State) (n : Nat) : (s.drawn n).freeCtr = s.freeCtr + n := rfl
@[simp] theorem State.drawn_plat (s : State) (n : Nat) : (s.drawn n).plat = s.plat := rfl
@[simp] theorem State.drawn_reg (s : State) (n : Nat) (q : RegNum) : (s.drawn n).reg q = s.reg q := rfl
@[simp] theorem State.drawn_dataPage (s : State) (n : Nat) : (s.drawn n).dataPage = s.dataPage := rfl
@[simp] theorem State.drawn_reaches (s : State) (n : Nat) : (s.drawn n).reaches = s.reaches := rfl
@[simp] theorem State.drawn_word (s : State) (n : Nat) : (s.drawn n).word = s.word := rfl

/-! ### setCC -/

@[simp] theorem State.setCC_x (s : State) (c v : Bool) : (s.setCC c v).x = s.x := rfl
@[simp] theorem State.setCC_pc (s : State) (c v : Bool) : (s.setCC c v).pc = s.pc := rfl
@[simp] theorem State.setCC_base (s : State) (c v : Bool) : (s.setCC c v).base = s.base := rfl
@[simp] theorem State.setCC_prog (s : State) (c v : Bool) : (s.setCC c v).prog = s.prog := rfl
@[simp] theorem State.setCC_mod (s : State) (c v : Bool) : (s.setCC c v).mod = s.mod := rfl
@[simp] theorem State.setCC_modified (s : State) (c v : Bool) : (s.setCC c v).modified = s.modified := rfl
@[simp] theorem State.setCC_psw (s : State) (c v : Bool) : (s.setCC c v).psw = insertBits s.psw 4 (flagNibble s.plat.flags c v (s.free 0)) := rfl
@[simp] theorem State.setCC_timer (s : State) (c v : Bool) : (s.setCC c v).timer = s.timer := rfl
@[simp] theorem State.setCC_bound (s : State) (c v : Bool) : (s.setCC c v).bound = s.bound := rfl
@[simp] theorem State.setCC_level (s : State) (c v : Bool) : (s.setCC c v).level = s.level := rfl
@[simp] theorem State.setCC_umap (s : State) (c v : Bool) : (s.setCC c v).umap = s.umap := rfl
@[simp] theorem State.setCC_spm (s : State) (c v : Bool) : (s.setCC c v).spm = s.spm := rfl
@[simp] theorem State.setCC_cacheOn (s : State) (c v : Bool) : (s.setCC c v).cacheOn = s.cacheOn := rfl
@[simp] theorem State.setCC_semBlock (s : State) (c v : Bool) : (s.setCC c v).semBlock = s.semBlock := rfl
@[simp] theorem State.setCC_instr (s : State) (c v : Bool) : (s.setCC c v).instr = s.instr := rfl
@[simp] theorem State.setCC_awaitingNmi (s : State) (c v : Bool) : (s.setCC c v).awaitingNmi = s.awaitingNmi := rfl
@[simp] theorem State.setCC_mem (s : State) (c v : Bool) : (s.setCC c v).mem = s.mem := rfl
@[simp] theorem State.setCC_mapMem (s : State) (c v : Bool) : (s.setCC c v).mapMem = s.mapMem := rfl
@[simp] theorem State.setCC_ioReplies (s : State) (c v : Bool) : (s.setCC c v).ioReplies = s.ioReplies := rfl
@[simp] theorem State.setCC_trace (s : State) (c v : Bool) : (s.setCC c v).trace = s.trace := rfl
@[simp] theorem State.setCC_freeCtr (s : State) (c v : Bool) : (s.setCC c v).freeCtr = s.freeCtr + 1 := rfl
@[simp] theorem State.setCC_plat (s : State) (c v : Bool) : (s.setCC c v).plat = s.plat := rfl
@[simp] theorem State.setCC_reg (s : State) (c v : Bool) (q : RegNum) : (s.setCC c v).reg q = s.reg q := rfl
@[simp] theorem State.setCC_dataPage (s : State) (c v : Bool) : (s.setCC c v).dataPage = s.dataPage := rfl
@[simp] theorem State.setCC_reaches (s : State) (c v : Bool) : (s.setCC c v).reaches = s.reaches := rfl
@[simp] theorem State.setCC_word (s : State) (c v : Bool) : (s.setCC c v).word = s.word := rfl

/-! ### emit -/

@[simp] theorem State.emit_x (s : State) (e : Event) : (s.emit e).x = s.x := rfl
@[simp] theorem State.emit_pc (s : State) (e : Event) : (s.emit e).pc = s.pc := rfl
@[simp] theorem State.emit_base (s : State) (e : Event) : (s.emit e).base = s.base := rfl
@[simp] theorem State.emit_prog (s : State) (e : Event) : (s.emit e).prog = s.prog := rfl
@[simp] theorem State.emit_mod (s : State) (e : Event) : (s.emit e).mod = s.mod := rfl
@[simp] theorem State.emit_modified (s : State) (e : Event) : (s.emit e).modified = s.modified := rfl
@[simp] theorem State.emit_psw (s : State) (e : Event) : (s.emit e).psw = s.psw := rfl
@[simp] theorem State.emit_timer (s : State) (e : Event) : (s.emit e).timer = s.timer := rfl
@[simp] theorem State.emit_bound (s : State) (e : Event) : (s.emit e).bound = s.bound := rfl
@[simp] theorem State.emit_level (s : State) (e : Event) : (s.emit e).level = s.level := rfl
@[simp] theorem State.emit_umap (s : State) (e : Event) : (s.emit e).umap = s.umap := rfl
@[simp] theorem State.emit_spm (s : State) (e : Event) : (s.emit e).spm = s.spm := rfl
@[simp] theorem State.emit_cacheOn (s : State) (e : Event) : (s.emit e).cacheOn = s.cacheOn := rfl
@[simp] theorem State.emit_semBlock (s : State) (e : Event) : (s.emit e).semBlock = s.semBlock := rfl
@[simp] theorem State.emit_instr (s : State) (e : Event) : (s.emit e).instr = s.instr := rfl
@[simp] theorem State.emit_awaitingNmi (s : State) (e : Event) : (s.emit e).awaitingNmi = s.awaitingNmi := rfl
@[simp] theorem State.emit_mem (s : State) (e : Event) : (s.emit e).mem = s.mem := rfl
@[simp] theorem State.emit_mapMem (s : State) (e : Event) : (s.emit e).mapMem = s.mapMem := rfl
@[simp] theorem State.emit_ioReplies (s : State) (e : Event) : (s.emit e).ioReplies = s.ioReplies := rfl
@[simp] theorem State.emit_trace (s : State) (e : Event) : (s.emit e).trace = e :: s.trace := rfl
@[simp] theorem State.emit_freeCtr (s : State) (e : Event) : (s.emit e).freeCtr = s.freeCtr := rfl
@[simp] theorem State.emit_plat (s : State) (e : Event) : (s.emit e).plat = s.plat := rfl
@[simp] theorem State.emit_reg (s : State) (e : Event) (q : RegNum) : (s.emit e).reg q = s.reg q := rfl
@[simp] theorem State.emit_dataPage (s : State) (e : Event) : (s.emit e).dataPage = s.dataPage := rfl
@[simp] theorem State.emit_reaches (s : State) (e : Event) : (s.emit e).reaches = s.reaches := rfl
@[simp] theorem State.emit_word (s : State) (e : Event) : (s.emit e).word = s.word := rfl

/-! ### altReturn -/

@[simp] theorem State.altReturn_x (s : State) (n : Word) : (s.altReturn n).x = s.x := rfl
@[simp] theorem State.altReturn_pc (s : State) (n : Word) : (s.altReturn n).pc = s.pc + n := rfl
@[simp] theorem State.altReturn_base (s : State) (n : Word) : (s.altReturn n).base = s.base := rfl
@[simp] theorem State.altReturn_prog (s : State) (n : Word) : (s.altReturn n).prog = s.prog := rfl
@[simp] theorem State.altReturn_mod (s : State) (n : Word) : (s.altReturn n).mod = 0 := rfl
@[simp] theorem State.altReturn_modified (s : State) (n : Word) : (s.altReturn n).modified = false := rfl
@[simp] theorem State.altReturn_psw (s : State) (n : Word) : (s.altReturn n).psw = insertBits s.psw 12 (BitVec.ofBool false) := rfl
@[simp] theorem State.altReturn_timer (s : State) (n : Word) : (s.altReturn n).timer = s.timer := rfl
@[simp] theorem State.altReturn_bound (s : State) (n : Word) : (s.altReturn n).bound = s.bound := rfl
@[simp] theorem State.altReturn_level (s : State) (n : Word) : (s.altReturn n).level = s.level := rfl
@[simp] theorem State.altReturn_umap (s : State) (n : Word) : (s.altReturn n).umap = s.umap := rfl
@[simp] theorem State.altReturn_spm (s : State) (n : Word) : (s.altReturn n).spm = s.spm := rfl
@[simp] theorem State.altReturn_cacheOn (s : State) (n : Word) : (s.altReturn n).cacheOn = s.cacheOn := rfl
@[simp] theorem State.altReturn_semBlock (s : State) (n : Word) : (s.altReturn n).semBlock = s.semBlock := rfl
@[simp] theorem State.altReturn_instr (s : State) (n : Word) : (s.altReturn n).instr = s.instr := rfl
@[simp] theorem State.altReturn_awaitingNmi (s : State) (n : Word) : (s.altReturn n).awaitingNmi = s.awaitingNmi := rfl
@[simp] theorem State.altReturn_mem (s : State) (n : Word) : (s.altReturn n).mem = s.mem := rfl
@[simp] theorem State.altReturn_mapMem (s : State) (n : Word) : (s.altReturn n).mapMem = s.mapMem := rfl
@[simp] theorem State.altReturn_ioReplies (s : State) (n : Word) : (s.altReturn n).ioReplies = s.ioReplies := rfl
@[simp] theorem State.altReturn_trace (s : State) (n : Word) : (s.altReturn n).trace = s.trace := rfl
@[simp] theorem State.altReturn_freeCtr (s : State) (n : Word) : (s.altReturn n).freeCtr = s.freeCtr := rfl
@[simp] theorem State.altReturn_plat (s : State) (n : Word) : (s.altReturn n).plat = s.plat := rfl
@[simp] theorem State.altReturn_reg (s : State) (n : Word) (q : RegNum) : (s.altReturn n).reg q = s.reg q := rfl
@[simp] theorem State.altReturn_dataPage (s : State) (n : Word) : (s.altReturn n).dataPage = s.dataPage := rfl
@[simp] theorem State.altReturn_reaches (s : State) (n : Word) : (s.altReturn n).reaches = s.reaches := rfl
@[simp] theorem State.altReturn_word (s : State) (n : Word) : (s.altReturn n).word = s.word := rfl

/-! ### putWord -/

@[simp] theorem State.putWord_x (s : State) (p : Byte) (a v : Word) : (s.putWord p a v).x = s.x := rfl
@[simp] theorem State.putWord_pc (s : State) (p : Byte) (a v : Word) : (s.putWord p a v).pc = s.pc := rfl
@[simp] theorem State.putWord_base (s : State) (p : Byte) (a v : Word) : (s.putWord p a v).base = s.base := rfl
@[simp] theorem State.putWord_prog (s : State) (p : Byte) (a v : Word) : (s.putWord p a v).prog = s.prog := rfl
@[simp] theorem State.putWord_mod (s : State) (p : Byte) (a v : Word) : (s.putWord p a v).mod = s.mod := rfl
@[simp] theorem State.putWord_modified (s : State) (p : Byte) (a v : Word) : (s.putWord p a v).modified = s.modified := rfl
@[simp] theorem State.putWord_psw (s : State) (p : Byte) (a v : Word) : (s.putWord p a v).psw = s.psw := rfl
@[simp] theorem State.putWord_timer (s : State) (p : Byte) (a v : Word) : (s.putWord p a v).timer = s.timer := rfl
@[simp] theorem State.putWord_bound (s : State) (p : Byte) (a v : Word) : (s.putWord p a v).bound = s.bound := rfl
@[simp] theorem State.putWord_level (s : State) (p : Byte) (a v : Word) : (s.putWord p a v).level = s.level := rfl
@[simp] theorem State.putWord_umap (s : State) (p : Byte) (a v : Word) : (s.putWord p a v).umap = s.umap := rfl
@[simp] theorem State.putWord_spm (s : State) (p : Byte) (a v : Word) : (s.putWord p a v).spm = s.spm := rfl
@[simp] theorem State.putWord_cacheOn (s : State) (p : Byte) (a v : Word) : (s.putWord p a v).cacheOn = s.cacheOn := rfl
@[simp] theorem State.putWord_semBlock (s : State) (p : Byte) (a v : Word) : (s.putWord p a v).semBlock = s.semBlock := rfl
@[simp] theorem State.putWord_instr (s : State) (p : Byte) (a v : Word) : (s.putWord p a v).instr = s.instr := rfl
@[simp] theorem State.putWord_awaitingNmi (s : State) (p : Byte) (a v : Word) : (s.putWord p a v).awaitingNmi = s.awaitingNmi := rfl
@[simp] theorem State.putWord_mem (s : State) (p : Byte) (a v : Word) : (s.putWord p a v).mem = s.mem.writeWord (wordIndex p a) v := rfl
@[simp] theorem State.putWord_mapMem (s : State) (p : Byte) (a v : Word) : (s.putWord p a v).mapMem = s.mapMem := rfl
@[simp] theorem State.putWord_ioReplies (s : State) (p : Byte) (a v : Word) : (s.putWord p a v).ioReplies = s.ioReplies := rfl
@[simp] theorem State.putWord_trace (s : State) (p : Byte) (a v : Word) : (s.putWord p a v).trace = s.trace := rfl
@[simp] theorem State.putWord_freeCtr (s : State) (p : Byte) (a v : Word) : (s.putWord p a v).freeCtr = s.freeCtr := rfl
@[simp] theorem State.putWord_plat (s : State) (p : Byte) (a v : Word) : (s.putWord p a v).plat = s.plat := rfl
@[simp] theorem State.putWord_reg (s : State) (p : Byte) (a v : Word) (q : RegNum) : (s.putWord p a v).reg q = s.reg q := rfl
@[simp] theorem State.putWord_dataPage (s : State) (p : Byte) (a v : Word) : (s.putWord p a v).dataPage = s.dataPage := rfl
@[simp] theorem State.putWord_reaches (s : State) (p : Byte) (a v : Word) : (s.putWord p a v).reaches = s.reaches := rfl

/-! ### linked -/

@[simp] theorem State.linked_pc (s : State) (r : RegNum) : (s.linked r).pc = s.pc := rfl
@[simp] theorem State.linked_base (s : State) (r : RegNum) : (s.linked r).base = s.base := rfl
@[simp] theorem State.linked_prog (s : State) (r : RegNum) : (s.linked r).prog = s.prog := rfl
@[simp] theorem State.linked_mod (s : State) (r : RegNum) : (s.linked r).mod = s.mod := rfl
@[simp] theorem State.linked_modified (s : State) (r : RegNum) : (s.linked r).modified = s.modified := rfl
@[simp] theorem State.linked_psw (s : State) (r : RegNum) : (s.linked r).psw = s.psw := rfl
@[simp] theorem State.linked_timer (s : State) (r : RegNum) : (s.linked r).timer = s.timer := rfl
@[simp] theorem State.linked_bound (s : State) (r : RegNum) : (s.linked r).bound = s.bound := rfl
@[simp] theorem State.linked_level (s : State) (r : RegNum) : (s.linked r).level = s.level := rfl
@[simp] theorem State.linked_umap (s : State) (r : RegNum) : (s.linked r).umap = s.umap := rfl
@[simp] theorem State.linked_spm (s : State) (r : RegNum) : (s.linked r).spm = s.spm := rfl
@[simp] theorem State.linked_cacheOn (s : State) (r : RegNum) : (s.linked r).cacheOn = s.cacheOn := rfl
@[simp] theorem State.linked_semBlock (s : State) (r : RegNum) : (s.linked r).semBlock = s.semBlock := rfl
@[simp] theorem State.linked_instr (s : State) (r : RegNum) : (s.linked r).instr = s.instr := rfl
@[simp] theorem State.linked_awaitingNmi (s : State) (r : RegNum) : (s.linked r).awaitingNmi = s.awaitingNmi := rfl
@[simp] theorem State.linked_mem (s : State) (r : RegNum) : (s.linked r).mem = s.mem := rfl
@[simp] theorem State.linked_mapMem (s : State) (r : RegNum) : (s.linked r).mapMem = s.mapMem := rfl
@[simp] theorem State.linked_ioReplies (s : State) (r : RegNum) : (s.linked r).ioReplies = s.ioReplies := rfl
@[simp] theorem State.linked_trace (s : State) (r : RegNum) : (s.linked r).trace = s.trace := rfl
@[simp] theorem State.linked_freeCtr (s : State) (r : RegNum) : (s.linked r).freeCtr = s.freeCtr := rfl
@[simp] theorem State.linked_plat (s : State) (r : RegNum) : (s.linked r).plat = s.plat := rfl
@[simp] theorem State.linked_dataPage (s : State) (r : RegNum) : (s.linked r).dataPage = s.dataPage := rfl
@[simp] theorem State.linked_reaches (s : State) (r : RegNum) : (s.linked r).reaches = s.reaches := rfl
@[simp] theorem State.linked_word (s : State) (r : RegNum) : (s.linked r).word = s.word := rfl

/-! ### incrWord -/

@[simp] theorem State.incrWord_pc (s : State) (f : RegNum) : (s.incrWord f).pc = s.pc := rfl
@[simp] theorem State.incrWord_base (s : State) (f : RegNum) : (s.incrWord f).base = s.base := rfl
@[simp] theorem State.incrWord_prog (s : State) (f : RegNum) : (s.incrWord f).prog = s.prog := rfl
@[simp] theorem State.incrWord_mod (s : State) (f : RegNum) : (s.incrWord f).mod = s.mod := rfl
@[simp] theorem State.incrWord_modified (s : State) (f : RegNum) : (s.incrWord f).modified = s.modified := rfl
@[simp] theorem State.incrWord_psw (s : State) (f : RegNum) : (s.incrWord f).psw = s.psw := rfl
@[simp] theorem State.incrWord_timer (s : State) (f : RegNum) : (s.incrWord f).timer = s.timer := rfl
@[simp] theorem State.incrWord_bound (s : State) (f : RegNum) : (s.incrWord f).bound = s.bound := rfl
@[simp] theorem State.incrWord_level (s : State) (f : RegNum) : (s.incrWord f).level = s.level := rfl
@[simp] theorem State.incrWord_umap (s : State) (f : RegNum) : (s.incrWord f).umap = s.umap := rfl
@[simp] theorem State.incrWord_spm (s : State) (f : RegNum) : (s.incrWord f).spm = s.spm := rfl
@[simp] theorem State.incrWord_cacheOn (s : State) (f : RegNum) : (s.incrWord f).cacheOn = s.cacheOn := rfl
@[simp] theorem State.incrWord_semBlock (s : State) (f : RegNum) : (s.incrWord f).semBlock = s.semBlock := rfl
@[simp] theorem State.incrWord_instr (s : State) (f : RegNum) : (s.incrWord f).instr = s.instr := rfl
@[simp] theorem State.incrWord_awaitingNmi (s : State) (f : RegNum) : (s.incrWord f).awaitingNmi = s.awaitingNmi := rfl
@[simp] theorem State.incrWord_mem (s : State) (f : RegNum) : (s.incrWord f).mem = s.mem := rfl
@[simp] theorem State.incrWord_mapMem (s : State) (f : RegNum) : (s.incrWord f).mapMem = s.mapMem := rfl
@[simp] theorem State.incrWord_ioReplies (s : State) (f : RegNum) : (s.incrWord f).ioReplies = s.ioReplies := rfl
@[simp] theorem State.incrWord_trace (s : State) (f : RegNum) : (s.incrWord f).trace = s.trace := rfl
@[simp] theorem State.incrWord_freeCtr (s : State) (f : RegNum) : (s.incrWord f).freeCtr = s.freeCtr := rfl
@[simp] theorem State.incrWord_plat (s : State) (f : RegNum) : (s.incrWord f).plat = s.plat := rfl
@[simp] theorem State.incrWord_dataPage (s : State) (f : RegNum) : (s.incrWord f).dataPage = s.dataPage := rfl
@[simp] theorem State.incrWord_reaches (s : State) (f : RegNum) : (s.incrWord f).reaches = s.reaches := rfl
@[simp] theorem State.incrWord_word (s : State) (f : RegNum) : (s.incrWord f).word = s.word := rfl

/-! ### incrByte -/

@[simp] theorem State.incrByte_pc (s : State) (f : RegNum) : (s.incrByte f).pc = s.pc := rfl
@[simp] theorem State.incrByte_base (s : State) (f : RegNum) : (s.incrByte f).base = s.base := rfl
@[simp] theorem State.incrByte_prog (s : State) (f : RegNum) : (s.incrByte f).prog = s.prog := rfl
@[simp] theorem State.incrByte_mod (s : State) (f : RegNum) : (s.incrByte f).mod = s.mod := rfl
@[simp] theorem State.incrByte_modified (s : State) (f : RegNum) : (s.incrByte f).modified = s.modified := rfl
@[simp] theorem State.incrByte_psw (s : State) (f : RegNum) : (s.incrByte f).psw = s.psw := rfl
@[simp] theorem State.incrByte_timer (s : State) (f : RegNum) : (s.incrByte f).timer = s.timer := rfl
@[simp] theorem State.incrByte_bound (s : State) (f : RegNum) : (s.incrByte f).bound = s.bound := rfl
@[simp] theorem State.incrByte_level (s : State) (f : RegNum) : (s.incrByte f).level = s.level := rfl
@[simp] theorem State.incrByte_umap (s : State) (f : RegNum) : (s.incrByte f).umap = s.umap := rfl
@[simp] theorem State.incrByte_spm (s : State) (f : RegNum) : (s.incrByte f).spm = s.spm := rfl
@[simp] theorem State.incrByte_cacheOn (s : State) (f : RegNum) : (s.incrByte f).cacheOn = s.cacheOn := rfl
@[simp] theorem State.incrByte_semBlock (s : State) (f : RegNum) : (s.incrByte f).semBlock = s.semBlock := rfl
@[simp] theorem State.incrByte_instr (s : State) (f : RegNum) : (s.incrByte f).instr = s.instr := rfl
@[simp] theorem State.incrByte_awaitingNmi (s : State) (f : RegNum) : (s.incrByte f).awaitingNmi = s.awaitingNmi := rfl
@[simp] theorem State.incrByte_mem (s : State) (f : RegNum) : (s.incrByte f).mem = s.mem := rfl
@[simp] theorem State.incrByte_mapMem (s : State) (f : RegNum) : (s.incrByte f).mapMem = s.mapMem := rfl
@[simp] theorem State.incrByte_ioReplies (s : State) (f : RegNum) : (s.incrByte f).ioReplies = s.ioReplies := rfl
@[simp] theorem State.incrByte_trace (s : State) (f : RegNum) : (s.incrByte f).trace = s.trace := rfl
@[simp] theorem State.incrByte_freeCtr (s : State) (f : RegNum) : (s.incrByte f).freeCtr = s.freeCtr := rfl
@[simp] theorem State.incrByte_plat (s : State) (f : RegNum) : (s.incrByte f).plat = s.plat := rfl
@[simp] theorem State.incrByte_dataPage (s : State) (f : RegNum) : (s.incrByte f).dataPage = s.dataPage := rfl
@[simp] theorem State.incrByte_reaches (s : State) (f : RegNum) : (s.incrByte f).reaches = s.reaches := rfl
@[simp] theorem State.incrByte_word (s : State) (f : RegNum) : (s.incrByte f).word = s.word := rfl

/-! ### decrement -/

@[simp] theorem State.decrement_pc (s : State) (f : RegNum) : (s.decrement f).pc = s.pc := rfl
@[simp] theorem State.decrement_base (s : State) (f : RegNum) : (s.decrement f).base = s.base := rfl
@[simp] theorem State.decrement_prog (s : State) (f : RegNum) : (s.decrement f).prog = s.prog := rfl
@[simp] theorem State.decrement_mod (s : State) (f : RegNum) : (s.decrement f).mod = s.mod := rfl
@[simp] theorem State.decrement_modified (s : State) (f : RegNum) : (s.decrement f).modified = s.modified := rfl
@[simp] theorem State.decrement_psw (s : State) (f : RegNum) : (s.decrement f).psw = s.psw := rfl
@[simp] theorem State.decrement_timer (s : State) (f : RegNum) : (s.decrement f).timer = s.timer := rfl
@[simp] theorem State.decrement_bound (s : State) (f : RegNum) : (s.decrement f).bound = s.bound := rfl
@[simp] theorem State.decrement_level (s : State) (f : RegNum) : (s.decrement f).level = s.level := rfl
@[simp] theorem State.decrement_umap (s : State) (f : RegNum) : (s.decrement f).umap = s.umap := rfl
@[simp] theorem State.decrement_spm (s : State) (f : RegNum) : (s.decrement f).spm = s.spm := rfl
@[simp] theorem State.decrement_cacheOn (s : State) (f : RegNum) : (s.decrement f).cacheOn = s.cacheOn := rfl
@[simp] theorem State.decrement_semBlock (s : State) (f : RegNum) : (s.decrement f).semBlock = s.semBlock := rfl
@[simp] theorem State.decrement_instr (s : State) (f : RegNum) : (s.decrement f).instr = s.instr := rfl
@[simp] theorem State.decrement_awaitingNmi (s : State) (f : RegNum) : (s.decrement f).awaitingNmi = s.awaitingNmi := rfl
@[simp] theorem State.decrement_mem (s : State) (f : RegNum) : (s.decrement f).mem = s.mem := rfl
@[simp] theorem State.decrement_mapMem (s : State) (f : RegNum) : (s.decrement f).mapMem = s.mapMem := rfl
@[simp] theorem State.decrement_ioReplies (s : State) (f : RegNum) : (s.decrement f).ioReplies = s.ioReplies := rfl
@[simp] theorem State.decrement_trace (s : State) (f : RegNum) : (s.decrement f).trace = s.trace := rfl
@[simp] theorem State.decrement_freeCtr (s : State) (f : RegNum) : (s.decrement f).freeCtr = s.freeCtr := rfl
@[simp] theorem State.decrement_plat (s : State) (f : RegNum) : (s.decrement f).plat = s.plat := rfl
@[simp] theorem State.decrement_dataPage (s : State) (f : RegNum) : (s.decrement f).dataPage = s.dataPage := rfl
@[simp] theorem State.decrement_reaches (s : State) (f : RegNum) : (s.decrement f).reaches = s.reaches := rfl
@[simp] theorem State.decrement_word (s : State) (f : RegNum) : (s.decrement f).word = s.word := rfl

/-! ### execute -/

@[simp] theorem State.execute_x (s : State) (w : Word) : (s.execute w).x = s.x := rfl
@[simp] theorem State.execute_pc (s : State) (w : Word) : (s.execute w).pc = s.pc := rfl
@[simp] theorem State.execute_base (s : State) (w : Word) : (s.execute w).base = s.base := rfl
@[simp] theorem State.execute_prog (s : State) (w : Word) : (s.execute w).prog = s.prog := rfl
@[simp] theorem State.execute_mod (s : State) (w : Word) : (s.execute w).mod = 0 := rfl
@[simp] theorem State.execute_modified (s : State) (w : Word) : (s.execute w).modified = false := rfl
@[simp] theorem State.execute_psw (s : State) (w : Word) : (s.execute w).psw = s.psw := rfl
@[simp] theorem State.execute_timer (s : State) (w : Word) : (s.execute w).timer = s.timer := rfl
@[simp] theorem State.execute_bound (s : State) (w : Word) : (s.execute w).bound = s.bound := rfl
@[simp] theorem State.execute_level (s : State) (w : Word) : (s.execute w).level = s.level := rfl
@[simp] theorem State.execute_umap (s : State) (w : Word) : (s.execute w).umap = s.umap := rfl
@[simp] theorem State.execute_spm (s : State) (w : Word) : (s.execute w).spm = s.spm := rfl
@[simp] theorem State.execute_cacheOn (s : State) (w : Word) : (s.execute w).cacheOn = s.cacheOn := rfl
@[simp] theorem State.execute_semBlock (s : State) (w : Word) : (s.execute w).semBlock = s.semBlock := rfl
@[simp] theorem State.execute_instr (s : State) (w : Word) : (s.execute w).instr = some w := rfl
@[simp] theorem State.execute_awaitingNmi (s : State) (w : Word) : (s.execute w).awaitingNmi = s.awaitingNmi := rfl
@[simp] theorem State.execute_mem (s : State) (w : Word) : (s.execute w).mem = s.mem := rfl
@[simp] theorem State.execute_mapMem (s : State) (w : Word) : (s.execute w).mapMem = s.mapMem := rfl
@[simp] theorem State.execute_ioReplies (s : State) (w : Word) : (s.execute w).ioReplies = s.ioReplies := rfl
@[simp] theorem State.execute_trace (s : State) (w : Word) : (s.execute w).trace = s.trace := rfl
@[simp] theorem State.execute_freeCtr (s : State) (w : Word) : (s.execute w).freeCtr = s.freeCtr := rfl
@[simp] theorem State.execute_plat (s : State) (w : Word) : (s.execute w).plat = s.plat := rfl
@[simp] theorem State.execute_reg (s : State) (w : Word) (q : RegNum) : (s.execute w).reg q = s.reg q := rfl
@[simp] theorem State.execute_dataPage (s : State) (w : Word) : (s.execute w).dataPage = s.dataPage := rfl
@[simp] theorem State.execute_reaches (s : State) (w : Word) : (s.execute w).reaches = s.reaches := rfl
@[simp] theorem State.execute_word (s : State) (w : Word) : (s.execute w).word = s.word := rfl

/-! ### taken -/

@[simp] theorem State.taken_x (s : State) : (s.taken).x = s.x := rfl
@[simp] theorem State.taken_pc (s : State) : (s.taken).pc = s.pc := rfl
@[simp] theorem State.taken_base (s : State) : (s.taken).base = s.base := rfl
@[simp] theorem State.taken_prog (s : State) : (s.taken).prog = s.prog := rfl
@[simp] theorem State.taken_mod (s : State) : (s.taken).mod = s.mod := rfl
@[simp] theorem State.taken_modified (s : State) : (s.taken).modified = s.modified := rfl
@[simp] theorem State.taken_psw (s : State) : (s.taken).psw = s.psw := rfl
@[simp] theorem State.taken_timer (s : State) : (s.taken).timer = s.timer := rfl
@[simp] theorem State.taken_bound (s : State) : (s.taken).bound = s.bound := rfl
@[simp] theorem State.taken_level (s : State) : (s.taken).level = s.level := rfl
@[simp] theorem State.taken_umap (s : State) : (s.taken).umap = s.umap := rfl
@[simp] theorem State.taken_spm (s : State) : (s.taken).spm = s.spm := rfl
@[simp] theorem State.taken_cacheOn (s : State) : (s.taken).cacheOn = s.cacheOn := rfl
@[simp] theorem State.taken_semBlock (s : State) : (s.taken).semBlock = s.semBlock := rfl
@[simp] theorem State.taken_instr (s : State) : (s.taken).instr = none := rfl
@[simp] theorem State.taken_awaitingNmi (s : State) : (s.taken).awaitingNmi = s.awaitingNmi := rfl
@[simp] theorem State.taken_mem (s : State) : (s.taken).mem = s.mem := rfl
@[simp] theorem State.taken_mapMem (s : State) : (s.taken).mapMem = s.mapMem := rfl
@[simp] theorem State.taken_ioReplies (s : State) : (s.taken).ioReplies = s.ioReplies := rfl
@[simp] theorem State.taken_trace (s : State) : (s.taken).trace = s.trace := rfl
@[simp] theorem State.taken_freeCtr (s : State) : (s.taken).freeCtr = s.freeCtr := rfl
@[simp] theorem State.taken_plat (s : State) : (s.taken).plat = s.plat := rfl
@[simp] theorem State.taken_reg (s : State) (q : RegNum) : (s.taken).reg q = s.reg q := rfl
@[simp] theorem State.taken_dataPage (s : State) : (s.taken).dataPage = s.dataPage := rfl
@[simp] theorem State.taken_reaches (s : State) : (s.taken).reaches = s.reaches := rfl
@[simp] theorem State.taken_word (s : State) : (s.taken).word = s.word := rfl

/-! ### bracketCache: only the cache enable -/

@[simp] theorem State.bracketCache_x (s : State) (b : Bool) : (s.bracketCache b).x = s.x := by
  unfold State.bracketCache; split <;> rfl
@[simp] theorem State.bracketCache_pc (s : State) (b : Bool) : (s.bracketCache b).pc = s.pc := by
  unfold State.bracketCache; split <;> rfl
@[simp] theorem State.bracketCache_base (s : State) (b : Bool) : (s.bracketCache b).base = s.base := by
  unfold State.bracketCache; split <;> rfl
@[simp] theorem State.bracketCache_prog (s : State) (b : Bool) : (s.bracketCache b).prog = s.prog := by
  unfold State.bracketCache; split <;> rfl
@[simp] theorem State.bracketCache_mod (s : State) (b : Bool) : (s.bracketCache b).mod = s.mod := by
  unfold State.bracketCache; split <;> rfl
@[simp] theorem State.bracketCache_modified (s : State) (b : Bool) : (s.bracketCache b).modified = s.modified := by
  unfold State.bracketCache; split <;> rfl
@[simp] theorem State.bracketCache_psw (s : State) (b : Bool) : (s.bracketCache b).psw = s.psw := by
  unfold State.bracketCache; split <;> rfl
@[simp] theorem State.bracketCache_timer (s : State) (b : Bool) : (s.bracketCache b).timer = s.timer := by
  unfold State.bracketCache; split <;> rfl
@[simp] theorem State.bracketCache_bound (s : State) (b : Bool) : (s.bracketCache b).bound = s.bound := by
  unfold State.bracketCache; split <;> rfl
@[simp] theorem State.bracketCache_level (s : State) (b : Bool) : (s.bracketCache b).level = s.level := by
  unfold State.bracketCache; split <;> rfl
@[simp] theorem State.bracketCache_umap (s : State) (b : Bool) : (s.bracketCache b).umap = s.umap := by
  unfold State.bracketCache; split <;> rfl
@[simp] theorem State.bracketCache_spm (s : State) (b : Bool) : (s.bracketCache b).spm = s.spm := by
  unfold State.bracketCache; split <;> rfl
@[simp] theorem State.bracketCache_semBlock (s : State) (b : Bool) : (s.bracketCache b).semBlock = s.semBlock := by
  unfold State.bracketCache; split <;> rfl
@[simp] theorem State.bracketCache_instr (s : State) (b : Bool) : (s.bracketCache b).instr = s.instr := by
  unfold State.bracketCache; split <;> rfl
@[simp] theorem State.bracketCache_awaitingNmi (s : State) (b : Bool) : (s.bracketCache b).awaitingNmi = s.awaitingNmi := by
  unfold State.bracketCache; split <;> rfl
@[simp] theorem State.bracketCache_mem (s : State) (b : Bool) : (s.bracketCache b).mem = s.mem := by
  unfold State.bracketCache; split <;> rfl
@[simp] theorem State.bracketCache_mapMem (s : State) (b : Bool) : (s.bracketCache b).mapMem = s.mapMem := by
  unfold State.bracketCache; split <;> rfl
@[simp] theorem State.bracketCache_ioReplies (s : State) (b : Bool) : (s.bracketCache b).ioReplies = s.ioReplies := by
  unfold State.bracketCache; split <;> rfl
@[simp] theorem State.bracketCache_trace (s : State) (b : Bool) : (s.bracketCache b).trace = s.trace := by
  unfold State.bracketCache; split <;> rfl
@[simp] theorem State.bracketCache_freeCtr (s : State) (b : Bool) : (s.bracketCache b).freeCtr = s.freeCtr := by
  unfold State.bracketCache; split <;> rfl
@[simp] theorem State.bracketCache_plat (s : State) (b : Bool) : (s.bracketCache b).plat = s.plat := by
  unfold State.bracketCache; split <;> rfl
@[simp] theorem State.bracketCache_reg (s : State) (b : Bool) (q : RegNum) : (s.bracketCache b).reg q = s.reg q := by
  unfold State.bracketCache; split <;> rfl
@[simp] theorem State.bracketCache_dataPage (s : State) (b : Bool) : (s.bracketCache b).dataPage = s.dataPage := by
  unfold State.bracketCache; split <;> rfl
@[simp] theorem State.bracketCache_reaches (s : State) (b : Bool) : (s.bracketCache b).reaches = s.reaches := by
  unfold State.bracketCache; split <;> rfl
@[simp] theorem State.bracketCache_word (s : State) (b : Bool) : (s.bracketCache b).word = s.word := by
  unfold State.bracketCache; split <;> rfl

/-! ### putAt -/

@[simp] theorem State.putAt_pc (s : State) (l : Loc) (v : Word) : (s.putAt l v).pc = s.pc := by cases l <;> rfl
@[simp] theorem State.putAt_base (s : State) (l : Loc) (v : Word) : (s.putAt l v).base = s.base := by cases l <;> rfl
@[simp] theorem State.putAt_prog (s : State) (l : Loc) (v : Word) : (s.putAt l v).prog = s.prog := by cases l <;> rfl
@[simp] theorem State.putAt_mod (s : State) (l : Loc) (v : Word) : (s.putAt l v).mod = s.mod := by cases l <;> rfl
@[simp] theorem State.putAt_modified (s : State) (l : Loc) (v : Word) : (s.putAt l v).modified = s.modified := by cases l <;> rfl
@[simp] theorem State.putAt_psw (s : State) (l : Loc) (v : Word) : (s.putAt l v).psw = s.psw := by cases l <;> rfl
@[simp] theorem State.putAt_timer (s : State) (l : Loc) (v : Word) : (s.putAt l v).timer = s.timer := by cases l <;> rfl
@[simp] theorem State.putAt_bound (s : State) (l : Loc) (v : Word) : (s.putAt l v).bound = s.bound := by cases l <;> rfl
@[simp] theorem State.putAt_level (s : State) (l : Loc) (v : Word) : (s.putAt l v).level = s.level := by cases l <;> rfl
@[simp] theorem State.putAt_umap (s : State) (l : Loc) (v : Word) : (s.putAt l v).umap = s.umap := by cases l <;> rfl
@[simp] theorem State.putAt_spm (s : State) (l : Loc) (v : Word) : (s.putAt l v).spm = s.spm := by cases l <;> rfl
@[simp] theorem State.putAt_cacheOn (s : State) (l : Loc) (v : Word) : (s.putAt l v).cacheOn = s.cacheOn := by cases l <;> rfl
@[simp] theorem State.putAt_semBlock (s : State) (l : Loc) (v : Word) : (s.putAt l v).semBlock = s.semBlock := by cases l <;> rfl
@[simp] theorem State.putAt_instr (s : State) (l : Loc) (v : Word) : (s.putAt l v).instr = s.instr := by cases l <;> rfl
@[simp] theorem State.putAt_awaitingNmi (s : State) (l : Loc) (v : Word) : (s.putAt l v).awaitingNmi = s.awaitingNmi := by cases l <;> rfl
@[simp] theorem State.putAt_mapMem (s : State) (l : Loc) (v : Word) : (s.putAt l v).mapMem = s.mapMem := by cases l <;> rfl
@[simp] theorem State.putAt_ioReplies (s : State) (l : Loc) (v : Word) : (s.putAt l v).ioReplies = s.ioReplies := by cases l <;> rfl
@[simp] theorem State.putAt_trace (s : State) (l : Loc) (v : Word) : (s.putAt l v).trace = s.trace := by cases l <;> rfl
@[simp] theorem State.putAt_freeCtr (s : State) (l : Loc) (v : Word) : (s.putAt l v).freeCtr = s.freeCtr := by cases l <;> rfl
@[simp] theorem State.putAt_plat (s : State) (l : Loc) (v : Word) : (s.putAt l v).plat = s.plat := by cases l <;> rfl
@[simp] theorem State.putAt_dataPage (s : State) (l : Loc) (v : Word) : (s.putAt l v).dataPage = s.dataPage := by cases l <;> rfl
@[simp] theorem State.putAt_reaches (s : State) (l : Loc) (v : Word) : (s.putAt l v).reaches = s.reaches := by cases l <;> rfl
@[simp] theorem State.putAt_placeReaches (s : State) (l l' : Loc) (v : Word) : (s.putAt l v).placeReaches l' = s.placeReaches l' := by
  cases l <;> rfl

/-! ### Registers -/

/-- A register read after a register was written (R16). -/
@[simp] theorem State.setReg_reg (s : State) (r : RegNum) (v : Word) (q : RegNum) :
    (s.setReg r v).reg q = if q = r then v else s.reg q := by
  simp only [State.reg, State.setReg, Vector.getElem_set, BitVec.toNat_inj, eq_comm]

/-- Two states with the same registers have the same register vector. -/
theorem State.x_eq_of_reg (s t : State) (h : ∀ q, t.reg q = s.reg q) : t.x = s.x := by
  apply Vector.ext
  intro i hi
  have := h (BitVec.ofNat 3 i)
  simpa only [State.reg, BitVec.toNat_ofNat, Nat.mod_eq_of_lt hi] using this

/-- The next register is another one. -/
@[simp] theorem succReg_ne (r : RegNum) : succReg r ≠ r := by
  revert r; decide

@[simp] theorem ne_succReg (r : RegNum) : r ≠ succReg r := fun h => succReg_ne r h.symm

/-! ### Places -/

@[simp] theorem State.putAt_reg (s : State) (r : RegNum) (v : Word) : s.putAt (.reg r) v = s.setReg r v := rfl

@[simp] theorem State.putAt_data (s : State) (a v : Word) : s.putAt (.data a) v = s.putWord s.dataPage a v := rfl

@[simp] theorem State.valueAt_reg (s : State) (r : RegNum) : s.valueAt (.reg r) = s.reg r := rfl

@[simp] theorem State.valueAt_data (s : State) (a : Word) : s.valueAt (.data a) = s.word s.dataPage a := rfl

@[simp] theorem State.placeReaches_reg (s : State) (r : RegNum) : s.placeReaches (.reg r) = True := rfl

@[simp] theorem State.placeReaches_data (s : State) (a : Word) : s.placeReaches (.data a) = s.reaches (.abs s.dataPage) a := rfl

end Sys2Proof.Machine
end

