-- ==== Sys2Proof/Laws/Run.lean ====
section
/-! SUPPORT. The operations that can stop: when each answers, and with what (Machine/Ops.lean, Machine/Operands.lean). Each lemma says once everything
the operation can do when it answers, so that no later proof unfolds it. -/

namespace Sys2Proof.Machine

/-! ### Sequencing -/

/-- A sequence answers when both parts do. -/
theorem bind_ok {α β : Type} (x : Run α) (f : α → Run β) (b : β) : (x >>= f) = .ok b ↔ ∃ a, x = .ok a ∧ f a = .ok b := by
  cases x with
  | error e => exact ⟨fun h => (nomatch h), fun ⟨_, h, _⟩ => (nomatch h)⟩
  | ok a => exact ⟨fun h => ⟨a, rfl, h⟩, fun ⟨_, h, h'⟩ => by cases h; exact h'⟩

theorem pure_ok {α : Type} (a b : α) : (pure a : Run α) = .ok b ↔ b = a :=
  ⟨fun h => by cases h; rfl, fun h => by subst h; rfl⟩

theorem ok_ok {α : Type} (a b : α) : (Except.ok a : Run α) = .ok b ↔ b = a := pure_ok a b

@[simp] theorem ok_bind {α β : Type} (a : α) (f : α → Run β) : ((Except.ok a : Run α) >>= f) = f a := rfl

@[simp] theorem error_bind {α β : Type} (e : Stop) (f : α → Run β) : ((Except.error e : Run α) >>= f) = .error e := rfl

/-- A meaning answers a next state when its run does. -/
theorem outcome_next (r : Run State) (t : State) : outcome r = .next t ↔ r = .ok t := by
  cases r with
  | ok s => exact ⟨fun h => by cases h; rfl, fun h => by cases h; rfl⟩
  | error e => cases e <;> exact ⟨fun h => (nomatch h), fun h => (nomatch h)⟩

@[simp] theorem outcome_ok (t : State) : outcome (.ok t) = .next t := rfl

/-! ### Transfers -/

theorem access_ok (s : State) (sp : Space) (a : Word) (u : Unit) : s.access sp a = .ok u ↔ s.reaches sp a := by
  unfold State.access State.reaches
  cases transferFailure s.plat sp a with
  | none => simp
  | some k => simp [transferError]

theorem access_stop (s : State) (sp : Space) (a : Word) (k : TransferKind) (h : transferFailure s.plat sp a = some k) :
    s.access sp a = .error (.fault (.transferError k sp a s)) := by
  simp [State.access, h, transferError]

/-- A word read: its transfer goes through, and it is the word at the address. -/
theorem load_ok (s : State) (p : Byte) (a v : Word) : s.load p a = .ok v ↔ s.reaches (.abs p) a ∧ v = s.word p a := by
  simp only [State.load, bind_ok, access_ok, pure_ok, State.word, exists_const]

/-- A word written: its transfer goes through, and nothing but that word changes. -/
theorem store_ok (s : State) (p : Byte) (a v : Word) (t : State) :
    s.store p a v = .ok t ↔ s.reaches (.abs p) a ∧ t = s.putWord p a v := by
  simp only [State.store, bind_ok, access_ok, pure_ok, State.putWord, exists_const]

theorem loadData_ok (s : State) (a v : Word) : s.loadData a = .ok v ↔ s.reaches (.abs s.dataPage) a ∧ v = s.word s.dataPage a :=
  load_ok _ _ _ _

theorem storeData_ok (s : State) (a v : Word) (t : State) :
    s.storeData a v = .ok t ↔ s.reaches (.abs s.dataPage) a ∧ t = s.putWord s.dataPage a v :=
  store_ok _ _ _ _ _

theorem loadProg_ok (s : State) (a v : Word) : s.loadProg a = .ok v ↔ s.reaches (.abs s.progCur) a ∧ v = s.word s.progCur a :=
  load_ok _ _ _ _

/-- The byte at a byte address of a page: the low byte of its word where the address is even, the high byte where it is odd (R90). -/
theorem loadByte_ok (s : State) (p : Byte) (ba : Nat) (v : Byte) :
    s.loadByte p ba = .ok v ↔ s.reaches (.abs p) (byteWord ba) ∧
      v = (if ba % 2 = 0 then lowByte (s.word p (byteWord ba)) else highByte (s.word p (byteWord ba))) := by
  simp only [State.loadByte, bind_ok, load_ok, pure_ok, and_assoc, exists_and_left, exists_eq_left]

/-- A byte written: the other byte of its word is unchanged (R90). -/
theorem storeByte_ok (s : State) (p : Byte) (ba : Nat) (v : Byte) (t : State) :
    s.storeByte p ba v = .ok t ↔ s.reaches (.abs p) (byteWord ba) ∧
      t = { s with mem := s.mem.writeByte (2 * wordIndex p (byteWord ba) + ba % 2) v } := by
  simp only [State.storeByte, bind_ok, access_ok, pure_ok, exists_const]

theorem loadMap_ok (s : State) (a v : Word) : s.loadMap a = .ok v ↔ s.reaches .mapMem a ∧ v = s.mapMem.readWord a.toNat := by
  simp only [State.loadMap, bind_ok, access_ok, pure_ok, exists_const]

theorem storeMap_ok (s : State) (a v : Word) (t : State) :
    s.storeMap a v = .ok t ↔ s.reaches .mapMem a ∧ t = { s with mapMem := s.mapMem.writeWord a.toNat v } := by
  simp only [State.storeMap, bind_ok, access_ok, pure_ok, exists_const]

/-! ### Places -/

theorem read_ok (s : State) (l : Loc) (v : Word) : s.read l = .ok v ↔ s.placeReaches l ∧ v = s.valueAt l := by
  cases l with
  | reg r => simp [State.read, @eq_comm _ v]
  | data a => simp [State.read, loadData_ok]

theorem write_ok (s : State) (l : Loc) (v : Word) (t : State) : s.write l v = .ok t ↔ s.placeReaches l ∧ t = s.putAt l v := by
  cases l with
  | reg r => simp [State.write, @eq_comm _ t]
  | data a => simp [State.write, storeData_ok]

/-- A word of memory read after a word was written. -/
theorem putWord_word (s : State) (p : Byte) (a v : Word) (q : Byte) (b : Word) :
    (s.putWord p a v).word q b = if q = p ∧ b = a then v else s.word q b := by
  simp only [State.word, State.putWord, readWord_writeWord, wordIndex_inj]

/-- The value at a place after a place was written. -/
theorem putAt_valueAt (s : State) (l : Loc) (v : Word) (l' : Loc) :
    (s.putAt l v).valueAt l' = if l' = l then v else s.valueAt l' := by
  cases l <;> cases l' <;> simp [putWord_word]

/-- A place written is set, every other place is not touched. -/
theorem placeSet_putAt (s : State) (l : Loc) (v : Word) : PlaceSet s (s.putAt l v) l v := by
  cases l with
  | reg r => exact ⟨fun q => s.setReg_reg r v q, fun _ => rfl⟩
  | data a =>
    refine ⟨fun _ => rfl, by simp [putWord_word], fun b hb => ?_⟩
    simp only [List.mem_singleton] at hb
    exact readByte_writeWord_outside _ _ _ _ hb

/-! ### Several words -/

/-- The registers loaded by `loadRegisters`, one by one. -/
def loadedRegisters (s : State) (p : Byte) (a : Word) : List RegNum → State
  | [] => s
  | r :: t => loadedRegisters (s.setReg r (s.word p a)) p (a + 1) t

/-- The addresses `a`, `a + 1`, ... of a page, `n` of them, all answer. -/
def wordsReach (pl : Platform) (p : Byte) (a : Word) : Nat → Prop
  | 0 => True
  | n + 1 => transferFailure pl (.abs p) a = none ∧ wordsReach pl p (a + 1) n

theorem wordsReach_of_all (s : State) (p : Byte) (h : ∀ a, s.reaches (.abs p) a) (a : Word) (n : Nat) : wordsReach s.plat p a n := by
  induction n generalizing a with
  | zero => trivial
  | succ n ih => exact ⟨h a, ih _⟩

theorem loadRegisters_ok (rs : List RegNum) (s : State) (p : Byte) (a : Word) (t : State) :
    s.loadRegisters p a rs = .ok t ↔ wordsReach s.plat p a rs.length ∧ t = loadedRegisters s p a rs := by
  induction rs generalizing s a with
  | nil => simp [State.loadRegisters, loadedRegisters, wordsReach, @eq_comm _ t]
  | cons r rs ih =>
    simp only [State.loadRegisters, bind_ok, load_ok, loadedRegisters, wordsReach, List.length_cons, ih]
    constructor
    · rintro ⟨v, ⟨h1, rfl⟩, h2, rfl⟩
      exact ⟨⟨h1, h2⟩, rfl⟩
    · rintro ⟨⟨h1, h2⟩, rfl⟩
      exact ⟨_, ⟨h1, rfl⟩, h2, rfl⟩

/-- Loading registers leaves memory and the platform as they are. -/
@[simp] theorem loadedRegisters_mem (rs : List RegNum) (s : State) (p : Byte) (a : Word) : (loadedRegisters s p a rs).mem = s.mem := by
  induction rs generalizing s a with
  | nil => rfl
  | cons r rs ih => simp [loadedRegisters, ih]

@[simp] theorem loadedRegisters_plat (rs : List RegNum) (s : State) (p : Byte) (a : Word) : (loadedRegisters s p a rs).plat = s.plat := by
  induction rs generalizing s a with
  | nil => rfl
  | cons r rs ih => simp [loadedRegisters, ih]

/-- Nothing but registers is changed by loading registers. -/
theorem loadedRegisters_rest (rs : List RegNum) (s : State) (p : Byte) (a : Word) :
    { loadedRegisters s p a rs with x := s.x } = s := by
  induction rs generalizing s a with
  | nil => rfl
  | cons r rs ih =>
    have h := congrArg (fun t : State => { t with x := s.x }) (ih (s.setReg r (s.word p a)) (a + 1))
    exact h

/-- The words stored by `storeWords`, one by one. -/
def storedWords (s : State) (p : Byte) (a : Word) : List Word → State
  | [] => s
  | v :: t => storedWords (s.putWord p a v) p (a + 1) t

theorem storeWords_ok (vs : List Word) (s : State) (p : Byte) (a : Word) (t : State) :
    s.storeWords p a vs = .ok t ↔ wordsReach s.plat p a vs.length ∧ t = storedWords s p a vs := by
  induction vs generalizing s a with
  | nil => simp [State.storeWords, storedWords, wordsReach, @eq_comm _ t]
  | cons v vs ih =>
    simp only [State.storeWords, bind_ok, store_ok, storedWords, wordsReach, List.length_cons]
    constructor
    · rintro ⟨_, ⟨h1, rfl⟩, h2⟩
      obtain ⟨h3, rfl⟩ := (ih _ _).mp h2
      exact ⟨⟨h1, h3⟩, rfl⟩
    · rintro ⟨⟨h1, h2⟩, rfl⟩
      exact ⟨_, ⟨h1, rfl⟩, (ih _ _).mpr ⟨h2, rfl⟩⟩

@[simp] theorem storedWords_plat (vs : List Word) (s : State) (p : Byte) (a : Word) : (storedWords s p a vs).plat = s.plat := by
  induction vs generalizing s a with
  | nil => rfl
  | cons v vs ih => simp [storedWords, ih]

/-- Nothing but memory is changed by storing words. -/
theorem storedWords_rest (vs : List Word) (s : State) (p : Byte) (a : Word) : { storedWords s p a vs with mem := s.mem } = s := by
  induction vs generalizing s a with
  | nil => rfl
  | cons v vs ih =>
    have h := congrArg (fun t : State => { t with mem := s.mem }) (ih (s.putWord p a v) (a + 1))
    exact h

/-! ### Devices -/

theorem ioTransfer_ok (s : State) (k : IoKind) (dev v : Word) (t : State) :
    s.ioTransfer k dev = .ok (v, t) ↔
      s.deviceAnswers k dev v ∧ t = { s with ioReplies := (takeReply k dev s.ioReplies).2 } := by
  simp only [State.ioTransfer, bind_ok, access_ok, State.deviceAnswers]
  cases h : (takeReply k dev s.ioReplies).1 with
  | answered w =>
    simp only [pure_ok, Prod.mk.injEq, IoResult.answered.injEq]
    constructor
    · rintro ⟨_, h1, h2, h3⟩; exact ⟨⟨h1, h2.symm⟩, h3⟩
    · rintro ⟨⟨h1, h2⟩, h3⟩; exact ⟨(), h1, h2.symm, h3⟩
  | failed f => simp [transferError]

theorem ioRead_ok (s : State) (k : IoKind) (dev v : Word) (t : State) :
    s.ioRead k dev = .ok (v, t) ↔ s.deviceAnswers k dev v ∧ t = s.transferred k dev (.ioIn k dev v) := by
  simp only [State.ioRead, bind_ok, Prod.exists, ioTransfer_ok, pure_ok, Prod.mk.injEq]
  constructor
  · rintro ⟨w, u, ⟨h, rfl⟩, rfl, rfl⟩; exact ⟨h, rfl⟩
  · rintro ⟨h, rfl⟩; exact ⟨v, _, ⟨h, rfl⟩, rfl, rfl⟩

theorem ioWrite_ok (s : State) (k : IoKind) (dev v : Word) (t : State) :
    s.ioWrite k dev v = .ok t ↔ (∃ w, s.deviceAnswers k dev w) ∧ t = s.transferred k dev (.ioOut k dev v) := by
  simp only [State.ioWrite, bind_ok, Prod.exists, ioTransfer_ok, pure_ok]
  constructor
  · rintro ⟨w, u, ⟨h, rfl⟩, rfl⟩; exact ⟨⟨w, h⟩, rfl⟩
  · rintro ⟨⟨w, h⟩, rfl⟩; exact ⟨w, _, ⟨h, rfl⟩, rfl⟩

/-! ### Semaphore protection and the error exit -/

/-- What runs under semaphore protection answers with blocking clear again. -/
theorem underSemaphore_ok (s : State) (f : State → Run State) (t : State) :
    s.underSemaphore f = .ok t ↔ ∃ u, f { s with semBlock := true } = .ok u ∧ t = { u with semBlock := false } := by
  unfold State.underSemaphore
  split
  · rename_i u h; simp [h, @eq_comm _ t]
  · rename_i h; simp [h, transferError]
  · rename_i e h1 h2; simp [h2]

/-- The two stores, the mask and the return of the error exit (R386). -/
theorem errorExit_ok (s : State) (k : TransferKind) (t : State) :
    s.errorExit k = .ok t ↔ s.reaches (.abs s.dataPage) (s.base + 16) ∧ s.reaches (.abs s.dataPage) (s.base + 17) ∧
      t = ((((s.putWord s.dataPage (s.base + 16) s.pc).putWord s.dataPage (s.base + 17) (causeOf k)).setMask 3).altReturn 1) := by
  simp only [State.errorExit, bind_ok, storeData_ok, pure_ok]
  constructor
  · rintro ⟨_, ⟨h1, rfl⟩, _, ⟨h2, rfl⟩, rfl⟩; exact ⟨h1, h2, rfl⟩
  · rintro ⟨h1, h2, rfl⟩; exact ⟨_, ⟨h1, rfl⟩, _, ⟨h2, rfl⟩, rfl⟩

/-- An instruction with an error exit answers as its body does, or leaves by the exit after a failing transfer (R354). -/
theorem withErrorExit_ok (r : Run State) (t : State) :
    withErrorExit r = .ok t ↔ r = .ok t ∨
      ∃ k sp a u, r = .error (.fault (.transferError k sp a u)) ∧ u.errorExit k = .ok t := by
  unfold withErrorExit
  split
  · rename_i k sp a u
    constructor
    · intro h; exact Or.inr ⟨k, sp, a, u, rfl, h⟩
    · rintro (h | ⟨_, _, _, _, h, h'⟩)
      · cases h
      · cases h; exact h'
  · rename_i h
    constructor
    · exact Or.inl
    · rintro (h' | ⟨k, sp, a, u, h', _⟩)
      · exact h'
      · exact absurd h' (h k sp a u)

end Sys2Proof.Machine
end

