-- ==== Sys2Proof/Laws/Alternative.lean ====
section
/-! SUPPORT. The shared operations of the alternative set: what each answers when its transfers go through, and by which state a failing one
leaves by the error exit, said once. -/

namespace Sys2Proof.Machine

/-! ### Transfers that go through and that fail -/

theorem load_reached (s : State) (p : Byte) (a : Word) (h : s.reaches (.abs p) a) : s.load p a = .ok (s.word p a) :=
  (load_ok s p a _).mpr ⟨h, rfl⟩

theorem load_failed (s : State) (p : Byte) (a : Word) (k : TransferKind) (h : transferFailure s.plat (.abs p) a = some k) :
    s.load p a = .error (.fault (.transferError k (.abs p) a s)) := by
  simp only [State.load, access_stop s _ a k h, error_bind]

theorem store_reached (s : State) (p : Byte) (a v : Word) (h : s.reaches (.abs p) a) : s.store p a v = .ok (s.putWord p a v) :=
  (store_ok s p a v _).mpr ⟨h, rfl⟩

theorem store_failed (s : State) (p : Byte) (a v : Word) (k : TransferKind) (h : transferFailure s.plat (.abs p) a = some k) :
    s.store p a v = .error (.fault (.transferError k (.abs p) a s)) := by
  simp only [State.store, access_stop s _ a k h, error_bind]

theorem loadByte_reached (s : State) (p : Byte) (ba : Nat) (h : s.reaches (.abs p) (byteWord ba)) :
    s.loadByte p ba = .ok (s.byteAt p ba) :=
  (loadByte_ok s p ba _).mpr ⟨h, rfl⟩

theorem loadByte_failed (s : State) (p : Byte) (ba : Nat) (k : TransferKind)
    (h : transferFailure s.plat (.abs p) (byteWord ba) = some k) :
    s.loadByte p ba = .error (.fault (.transferError k (.abs p) (byteWord ba) s)) := by
  simp only [State.loadByte, load_failed s p _ k h, error_bind]

theorem storeByte_reached (s : State) (p : Byte) (ba : Nat) (v : Byte) (h : s.reaches (.abs p) (byteWord ba)) :
    s.storeByte p ba v = .ok (s.putByte p ba v) :=
  (storeByte_ok s p ba v _).mpr ⟨h, rfl⟩

theorem storeByte_failed (s : State) (p : Byte) (ba : Nat) (v : Byte) (k : TransferKind)
    (h : transferFailure s.plat (.abs p) (byteWord ba) = some k) :
    s.storeByte p ba v = .error (.fault (.transferError k (.abs p) (byteWord ba) s)) := by
  simp only [State.storeByte, access_stop s _ _ k h, error_bind]

theorem withErrorExit_answered (t : State) : withErrorExit (.ok t) = .ok t := rfl

theorem withErrorExit_failed (k : TransferKind) (sp : Space) (a : Word) (t : State) :
    withErrorExit (.error (.fault (.transferError k sp a t))) = t.errorExit k := rfl

/-! ### One word or byte of an absolute address -/

@[simp] theorem State.bracketCache_pairPage (s : State) (b : Bool) (f : RegNum) : (s.bracketCache b).pairPage f = s.pairPage f := by
  simp only [State.pairPage, State.bracketCache_reg]

@[simp] theorem State.bracketCache_absByteAddress (s : State) (b : Bool) (f : RegNum) :
    (s.bracketCache b).absByteAddress f = s.absByteAddress f := by
  simp only [State.absByteAddress, State.pairOffset, State.bracketCache_reg]

/-- AMOW, memory to register (R361). -/
theorem absLoadWord_reached (f1 f2 : RegNum) (s : State) (h : s.reaches (.abs (s.pairPage f1)) (s.reg f1)) :
    absLoadWord f1 f2 s = .ok ((s.bracketCache false).setReg f2 (s.word (s.pairPage f1) (s.reg f1))).altEnd := by
  have h1 := load_reached (s.bracketCache false) (s.pairPage f1) (s.reg f1) (by simpa only [State.bracketCache_reaches] using h)
  simp only [absLoadWord, State.bracketCache_pairPage, State.bracketCache_reg, h1, ok_bind, State.bracketCache_word]
  rfl

theorem absLoadWord_failed (f1 f2 : RegNum) (s : State) (k : TransferKind)
    (h : transferFailure s.plat (.abs (s.pairPage f1)) (s.reg f1) = some k) :
    absLoadWord f1 f2 s = (s.bracketCache false).errorExit k := by
  have h1 := load_failed (s.bracketCache false) (s.pairPage f1) (s.reg f1) k (by simpa only [State.bracketCache_plat] using h)
  simp only [absLoadWord, State.bracketCache_pairPage, State.bracketCache_reg, h1, error_bind, withErrorExit_failed]

/-- AMOW, register to memory (R361). -/
theorem absStoreWord_reached (f1 f2 : RegNum) (s : State) (h : s.reaches (.abs (s.pairPage f1)) (s.reg f1)) :
    absStoreWord f1 f2 s = .ok ((s.bracketCache false).putWord (s.pairPage f1) (s.reg f1) (s.reg f2)).altEnd := by
  have h1 := store_reached (s.bracketCache false) (s.pairPage f1) (s.reg f1) (s.reg f2)
    (by simpa only [State.bracketCache_reaches] using h)
  simp only [absStoreWord, State.bracketCache_pairPage, State.bracketCache_reg, h1, ok_bind]
  rfl

theorem absStoreWord_failed (f1 f2 : RegNum) (s : State) (k : TransferKind)
    (h : transferFailure s.plat (.abs (s.pairPage f1)) (s.reg f1) = some k) :
    absStoreWord f1 f2 s = (s.bracketCache false).errorExit k := by
  have h1 := store_failed (s.bracketCache false) (s.pairPage f1) (s.reg f1) (s.reg f2) k
    (by simpa only [State.bracketCache_plat] using h)
  simp only [absStoreWord, State.bracketCache_pairPage, State.bracketCache_reg, h1, error_bind, withErrorExit_failed]

/-- AMOB, memory to register (R362). -/
theorem absLoadByte_reached (f1 f2 : RegNum) (s : State) (h : s.reaches (.abs (s.pairPage f1)) (byteWord (s.absByteAddress f1))) :
    absLoadByte f1 f2 s = .ok ((s.bracketCache false).setReg f2 (zext (s.byteAt (s.pairPage f1) (s.absByteAddress f1)))).altEnd := by
  have h1 := loadByte_reached (s.bracketCache false) (s.pairPage f1) (s.absByteAddress f1)
    (by simpa only [State.bracketCache_reaches] using h)
  simp only [absLoadByte, State.bracketCache_pairPage, State.bracketCache_absByteAddress, h1, ok_bind, State.byteAt,
    State.bracketCache_word]
  rfl

theorem absLoadByte_failed (f1 f2 : RegNum) (s : State) (k : TransferKind)
    (h : transferFailure s.plat (.abs (s.pairPage f1)) (byteWord (s.absByteAddress f1)) = some k) :
    absLoadByte f1 f2 s = (s.bracketCache false).errorExit k := by
  have h1 := loadByte_failed (s.bracketCache false) (s.pairPage f1) (s.absByteAddress f1) k
    (by simpa only [State.bracketCache_plat] using h)
  simp only [absLoadByte, State.bracketCache_pairPage, State.bracketCache_absByteAddress, h1, error_bind, withErrorExit_failed]

/-- AMOB, register to memory (R362). -/
theorem absStoreByte_reached (f1 f2 : RegNum) (s : State) (h : s.reaches (.abs (s.pairPage f1)) (byteWord (s.absByteAddress f1))) :
    absStoreByte f1 f2 s = .ok ((s.bracketCache false).putByte (s.pairPage f1) (s.absByteAddress f1) (lowByte (s.reg f2))).altEnd := by
  have h1 := storeByte_reached (s.bracketCache false) (s.pairPage f1) (s.absByteAddress f1) (lowByte (s.reg f2))
    (by simpa only [State.bracketCache_reaches] using h)
  simp only [absStoreByte, State.bracketCache_pairPage, State.bracketCache_absByteAddress, State.bracketCache_reg, h1, ok_bind]
  rfl

theorem absStoreByte_failed (f1 f2 : RegNum) (s : State) (k : TransferKind)
    (h : transferFailure s.plat (.abs (s.pairPage f1)) (byteWord (s.absByteAddress f1)) = some k) :
    absStoreByte f1 f2 s = (s.bracketCache false).errorExit k := by
  have h1 := storeByte_failed (s.bracketCache false) (s.pairPage f1) (s.absByteAddress f1) (lowByte (s.reg f2)) k
    (by simpa only [State.bracketCache_plat] using h)
  simp only [absStoreByte, State.bracketCache_pairPage, State.bracketCache_absByteAddress, State.bracketCache_reg, h1, error_bind,
    withErrorExit_failed]

/-! ### Devices, map memory, system program map register -/

/-- DRD, its device and its place answering (R365). -/
theorem deviceRead_reached (o : Operand) (f2 : RegNum) (s : State) (v : Word) (h1 : s.deviceAnswers .drd (s.device f2) v)
    (h2 : s.placeReaches (o.loc s)) :
    deviceRead o f2 s =
      .ok (((s.transferred .drd (s.device f2) (.ioIn .drd (s.device f2) v)).putAt (o.loc s) v).altReturn 2) := by
  have e1 := (ioRead_ok s .drd (s.device f2) v _).mpr ⟨h1, rfl⟩
  have e2 := (write_ok (s.transferred .drd (s.device f2) (.ioIn .drd (s.device f2) v)) (o.loc s) v _).mpr
    ⟨by revert h2; cases o.loc s <;> exact id, rfl⟩
  simp only [deviceRead, e1, ok_bind, e2]
  rfl

/-- DWR (R366). -/
theorem deviceWrite_reached (o : Operand) (f2 : RegNum) (s : State) (w : Word) (h1 : s.deviceAnswers .dwr (s.device f2) w)
    (h2 : s.placeReaches (o.loc s)) :
    deviceWrite o f2 s =
      .ok ((s.transferred .dwr (s.device f2) (.ioOut .dwr (s.device f2) (s.valueAt (o.loc s)))).altReturn 2) := by
  have e1 := (read_ok s (o.loc s) _).mpr ⟨h2, rfl⟩
  have e2 := (ioWrite_ok s .dwr (s.device f2) (s.valueAt (o.loc s)) _).mpr ⟨⟨w, h1⟩, rfl⟩
  simp only [deviceWrite, e1, ok_bind, e2]
  rfl

/-- MRD on a CPU type that has it (R367). -/
theorem mapRead_ok (o : Operand) (f2 : RegNum) (s t : State) (hc : s.plat.cpu ≠ .type8) :
    mapRead o f2 s = .ok t ↔ s.reaches .mapMem (s.device f2) ∧ s.placeReaches (o.loc s) ∧
      t = (s.putAt (o.loc s) (s.mapMem.readWord (s.device f2).toNat)).altReturn 1 := by
  simp only [mapRead, hc, if_false, bind_ok, loadMap_ok, write_ok, pure_ok, and_assoc, exists_and_left, exists_eq_left]

/-- MWR (R368). -/
theorem mapWrite_ok (o : Operand) (f2 : RegNum) (s t : State) (hc : s.plat.cpu ≠ .type8) :
    mapWrite o f2 s = .ok t ↔ s.placeReaches (o.loc s) ∧ s.reaches .mapMem (s.device f2) ∧
      t = ({ s with mapMem := s.mapMem.writeWord (s.device f2).toNat (s.valueAt (o.loc s)) } : State).altReturn 1 := by
  simp only [mapWrite, hc, if_false, bind_ok, read_ok, storeMap_ok, pure_ok, and_assoc, exists_and_left, exists_eq_left]

/-- RSP (R369). -/
theorem readSystemMap_ok (o : Operand) (s t : State) :
    readSystemMap o s = .ok t ↔ s.placeReaches (o.loc s) ∧ t = (s.putAt (o.loc s) (zext s.spm)).altReturn 1 := by
  simp only [readSystemMap, bind_ok, write_ok, pure_ok, and_assoc, exists_and_left, exists_eq_left]

/-- WSP (R370). -/
theorem writeSystemMap_ok (o : Operand) (s t : State) :
    writeSystemMap o s = .ok t ↔ s.placeReaches (o.loc s) ∧
      t = ({ s with spm := lowByte (s.valueAt (o.loc s)) } : State).altReturn 1 := by
  simp only [writeSystemMap, bind_ok, read_ok, pure_ok, and_assoc, exists_and_left, exists_eq_left]

/-! ### Error correction -/

/-- ARSC (R371). -/
theorem readSyndrome_ok (f1 f2 : RegNum) (s t : State) :
    readSyndrome f1 f2 s = .ok t ↔ s.reaches (.abs (s.pairPage f1)) (s.reg f1) ∧
      t = ({ (s.setReg f2 (Config.syndrome (s.pairPage f1) (s.reg f1))).putWord (s.pairPage f1) (s.reg f1)
        (s.word (s.pairPage f1) (s.reg f1)) with semBlock := false } : State).altReturn 1 := by
  simp only [readSyndrome, bind_ok, underSemaphore_ok, load_ok, store_ok, pure_ok]
  constructor
  · rintro ⟨_, ⟨_, ⟨_, ⟨h1, rfl⟩, _, rfl⟩, rfl⟩, rfl⟩; exact ⟨h1, rfl⟩
  · rintro ⟨h1, rfl⟩; exact ⟨_, ⟨_, ⟨_, ⟨h1, rfl⟩, h1, rfl⟩, rfl⟩, rfl⟩

/-- ARED: only a time-out stops it (R372). -/
theorem readUncorrected_ok (f1 f2 : RegNum) (s t : State) :
    readUncorrected f1 f2 s = .ok t ↔ transferFailure s.plat (.abs (s.pairPage f1)) (s.reg f1) ≠ some .timeOut ∧
      t = (s.setReg f2 (s.word (s.pairPage f1) (s.reg f1))).altReturn 1 := by
  simp only [readUncorrected, bind_ok, State.loadRaw, pure_ok]
  by_cases h : transferFailure s.plat (.abs (s.pairPage f1)) (s.reg f1) = some .timeOut
  · simp [h, transferError]
  · simp only [h, if_false, ok_ok, exists_eq_left, ne_eq, not_false_eq_true, true_and]
    rfl

/-! ### Block moves -/

/-- The state of a block move whose units all go through, after at most `n` of them (R353, R393). -/
def blockState (unit : State → State) (t : RegNum) : Nat → State → State
  | 0, s => s
  | n + 1, s => if s.reg t = 0 then s.altReturn 2 else blockState unit t n (unit s)

/-- A unit further on, counted from the state after the first. -/
theorem countLasts_succ (unit : State → State) (c : RegNum) (s : State) (m : Nat) :
    CountLasts unit c s (m + 1) ↔ s.reg c ≠ 0 ∧ CountLasts unit c (unit s) m := by
  constructor
  · exact fun h => ⟨h 0 (Nat.zero_le _), fun j hj => h (j + 1) (Nat.succ_le_succ hj)⟩
  · rintro ⟨h0, h⟩ j hj
    cases j with
    | zero => exact h0
    | succ j => exact h j (Nat.le_of_succ_le_succ hj)

/-- A block move answers when each unit that it comes to does. -/
theorem blockLoop_answers (unit : State → Run State) (move : State → State) (t : RegNum) (goes : State → Prop)
    (h : ∀ u, goes u → unit u = .ok (move u)) (n : Nat) (s : State)
    (hs : ∀ m < n, CountLasts move t s m → goes (move^[m] s)) :
    blockLoop unit t n s = .ok (blockState move t n s) := by
  induction n generalizing s with
  | zero => rfl
  | succ n ih =>
    unfold blockLoop blockState
    split
    · rfl
    · rename_i h0
      rw [h s (hs 0 (Nat.zero_lt_succ n) fun j hj => by rw [Nat.le_zero.mp hj]; exact h0), ok_bind]
      exact ih (move s) fun m hm hc => hs (m + 1) (Nat.succ_lt_succ hm) ((countLasts_succ move t s m).mpr ⟨h0, hc⟩)

/-- A block move stops as its unit `m` does, where every unit before answers (R354). -/
theorem blockLoop_stops (unit : State → Run State) (move : State → State) (t : RegNum) (e : Stop) (m n : Nat) (hn : m < n) (s : State)
    (hc : CountLasts move t s m) (h : ∀ j < m, unit (move^[j] s) = .ok (move (move^[j] s)))
    (he : unit (move^[m] s) = .error e) : blockLoop unit t n s = .error e := by
  induction n generalizing s m with
  | zero => exact absurd hn (Nat.not_lt_zero m)
  | succ n ih =>
    unfold blockLoop
    rw [if_neg (show ¬ s.reg t = 0 from hc 0 (Nat.zero_le m))]
    cases m with
    | zero => rw [show unit s = .error e from he, error_bind]
    | succ m =>
      rw [show unit s = .ok (move s) from h 0 (Nat.zero_lt_succ m), ok_bind]
      exact ih m (Nat.lt_of_succ_lt_succ hn) (move s) ((countLasts_succ move t s m).mp hc).2
        (fun j hj => h (j + 1) (Nat.succ_lt_succ hj)) he

/-! ### The units -/

/-- Both transfers of a unit go through. -/
theorem unitFailure_none (src dst : State → Byte × Word) (s : State) :
    unitFailure src dst s = none ↔ s.reaches (.abs (src s).1) (src s).2 ∧ s.reaches (.abs (dst s).1) (dst s).2 := by
  simp only [unitFailure, Option.or_eq_none_iff, State.reaches]

/-- The read of a unit fails, or its write after it. -/
theorem unitFailure_some (src dst : State → Byte × Word) (s : State) (k : TransferKind) :
    unitFailure src dst s = some k ↔ transferFailure s.plat (.abs (src s).1) (src s).2 = some k ∨
      s.reaches (.abs (src s).1) (src s).2 ∧ transferFailure s.plat (.abs (dst s).1) (dst s).2 = some k := by
  simp only [unitFailure, Option.or_eq_some_iff, State.reaches]

theorem moveUnitWord_reached (src dst : State → Byte × Word) (f1 f2 t : RegNum) (s : State)
    (h1 : s.reaches (.abs (src s).1) (src s).2) (h2 : s.reaches (.abs (dst s).1) (dst s).2) :
    moveUnitWord src dst f1 f2 t s = .ok (wordMoved src dst f1 f2 t s) := by
  simp only [moveUnitWord, load_reached _ _ _ h1, store_reached _ _ _ _ h2, ok_bind]
  rfl

theorem moveUnitByte_reached (src dst : State → Byte × Nat) (f1 f2 t : RegNum) (s : State)
    (h1 : s.reaches (.abs (src s).1) (byteWord (src s).2)) (h2 : s.reaches (.abs (dst s).1) (byteWord (dst s).2)) :
    moveUnitByte src dst f1 f2 t s = .ok (byteMoved src dst f1 f2 t s) := by
  simp only [moveUnitByte, loadByte_reached _ _ _ h1, storeByte_reached _ _ _ _ h2, ok_bind]
  rfl

/-- A unit of words whose read or write fails changes nothing (R354). -/
theorem moveUnitWord_failed (src dst : State → Byte × Word) (f1 f2 t : RegNum) (s : State) (k : TransferKind)
    (h : unitFailure src dst s = some k) :
    ∃ sp a, moveUnitWord src dst f1 f2 t s = .error (.fault (.transferError k sp a s)) := by
  rcases (unitFailure_some src dst s k).mp h with h1 | ⟨h1, h2⟩
  · refine ⟨.abs (src s).1, (src s).2, ?_⟩
    simp only [moveUnitWord, load_failed _ _ _ _ h1, error_bind]
  · refine ⟨.abs (dst s).1, (dst s).2, ?_⟩
    simp only [moveUnitWord, load_reached _ _ _ h1, store_failed _ _ _ _ _ h2, ok_bind, error_bind]

theorem moveUnitByte_failed (src dst : State → Byte × Nat) (f1 f2 t : RegNum) (s : State) (k : TransferKind)
    (h : unitFailure (inWord src) (inWord dst) s = some k) :
    ∃ sp a, moveUnitByte src dst f1 f2 t s = .error (.fault (.transferError k sp a s)) := by
  rcases (unitFailure_some _ _ s k).mp h with h1 | ⟨h1, h2⟩
  · refine ⟨.abs (src s).1, byteWord (src s).2, ?_⟩
    have h1 : transferFailure s.plat (.abs (src s).1) (byteWord (src s).2) = some k := h1
    simp only [moveUnitByte, loadByte_failed _ _ _ _ h1, error_bind]
  · refine ⟨.abs (dst s).1, byteWord (dst s).2, ?_⟩
    have h1 : s.reaches (.abs (src s).1) (byteWord (src s).2) := h1
    have h2 : transferFailure s.plat (.abs (dst s).1) (byteWord (dst s).2) = some k := h2
    simp only [moveUnitByte, loadByte_reached _ _ _ h1, storeByte_failed _ _ _ _ _ h2, ok_bind, error_bind]

/-- A block move of words whose units go through. -/
theorem blockWords_reached (src dst : State → Byte × Word) (f1 f2 t : RegNum) (s : State)
    (h : ∀ m < blockFuel, CountLasts (wordMoved src dst f1 f2 t) t s m → unitFailure src dst ((wordMoved src dst f1 f2 t)^[m] s) = none) :
    blockWords src dst f1 f2 t s = .ok (blockState (wordMoved src dst f1 f2 t) t blockFuel s) := by
  have e := blockLoop_answers (moveUnitWord src dst f1 f2 t) (wordMoved src dst f1 f2 t) t (fun u => unitFailure src dst u = none)
    (fun u hu => moveUnitWord_reached src dst f1 f2 t u ((unitFailure_none src dst u).mp hu).1 ((unitFailure_none src dst u).mp hu).2)
    blockFuel s h
  rw [blockWords, e]; rfl

/-- A block move of bytes whose units go through. -/
theorem blockBytes_reached (src dst : State → Byte × Nat) (f1 f2 t : RegNum) (s : State)
    (h : ∀ m < blockFuel, CountLasts (byteMoved src dst f1 f2 t) t s m →
      unitFailure (inWord src) (inWord dst) ((byteMoved src dst f1 f2 t)^[m] s) = none) :
    blockBytes src dst f1 f2 t s = .ok (blockState (byteMoved src dst f1 f2 t) t blockFuel s) := by
  have e := blockLoop_answers (moveUnitByte src dst f1 f2 t) (byteMoved src dst f1 f2 t) t
    (fun u => unitFailure (inWord src) (inWord dst) u = none)
    (fun u hu => moveUnitByte_reached src dst f1 f2 t u ((unitFailure_none _ _ u).mp hu).1 ((unitFailure_none _ _ u).mp hu).2)
    blockFuel s h
  rw [blockBytes, e]; rfl

/-- A block move of words whose unit `m` is the first to fail leaves by the error exit, in the state before that unit (R354). -/
theorem blockWords_failed (src dst : State → Byte × Word) (f1 f2 t : RegNum) (s : State) (m : Nat) (k : TransferKind) (hm : m < blockFuel)
    (hc : CountLasts (wordMoved src dst f1 f2 t) t s m)
    (h : ∀ j < m, unitFailure src dst ((wordMoved src dst f1 f2 t)^[j] s) = none)
    (hk : unitFailure src dst ((wordMoved src dst f1 f2 t)^[m] s) = some k) :
    blockWords src dst f1 f2 t s = ((wordMoved src dst f1 f2 t)^[m] s).errorExit k := by
  obtain ⟨sp, a, he⟩ := moveUnitWord_failed src dst f1 f2 t _ k hk
  rw [blockWords, blockLoop_stops _ _ t _ m blockFuel hm s hc (fun j hj => ?_) he]
  · rfl
  · exact moveUnitWord_reached _ _ _ _ _ _ ((unitFailure_none _ _ _).mp (h j hj)).1 ((unitFailure_none _ _ _).mp (h j hj)).2

/-- A block move of bytes whose unit `m` is the first to fail. -/
theorem blockBytes_failed (src dst : State → Byte × Nat) (f1 f2 t : RegNum) (s : State) (m : Nat) (k : TransferKind) (hm : m < blockFuel)
    (hc : CountLasts (byteMoved src dst f1 f2 t) t s m)
    (h : ∀ j < m, unitFailure (inWord src) (inWord dst) ((byteMoved src dst f1 f2 t)^[j] s) = none)
    (hk : unitFailure (inWord src) (inWord dst) ((byteMoved src dst f1 f2 t)^[m] s) = some k) :
    blockBytes src dst f1 f2 t s = ((byteMoved src dst f1 f2 t)^[m] s).errorExit k := by
  obtain ⟨sp, a, he⟩ := moveUnitByte_failed src dst f1 f2 t _ k hk
  rw [blockBytes, blockLoop_stops _ _ t _ m blockFuel hm s hc (fun j hj => ?_) he]
  · rfl
  · exact moveUnitByte_reached _ _ _ _ _ _ ((unitFailure_none _ _ _).mp (h j hj)).1 ((unitFailure_none _ _ _).mp (h j hj)).2

end Sys2Proof.Machine
end

