-- ==== Sys2Proof/Laws/Basic.lean ====
section
/-! SUPPORT. The shared operations of the instructions of memory and registers: when each answers and with what, said once. The right side
gives the transfers that must go through and the next state in terms of named updates. -/

namespace Sys2Proof.Machine

/-- MOD (R174). -/
theorem modifyBy_ok (o : Operand) (s t : State) :
    modifyBy o s = .ok t ↔
      s.placeReaches (o.loc s) ∧ t = s.modify (s.valueAt (o.loc s)) := by
  simp only [modifyBy, bind_ok, read_ok, pure_ok, and_assoc, exists_and_left, exists_eq_left]

/-- MODN (R175). -/
theorem modifyByMinus_ok (o : Operand) (s t : State) :
    modifyByMinus o s = .ok t ↔
      s.placeReaches (o.loc s) ∧ t = s.modify (-(s.valueAt (o.loc s))) := by
  simp only [modifyByMinus, bind_ok, read_ok, pure_ok, and_assoc, exists_and_left, exists_eq_left]

/-- The P8 operand of MOD and MODN (R174). -/
theorem ownParameter_ok (s : State) (k : BitVec 8) (v : Word) :
    s.ownParameter k = .ok v ↔
      s.reaches (.abs s.progCur) (s.prog + zext k) ∧ v = s.word s.progCur (s.prog + zext k) := by
  simp only [State.ownParameter, loadProg_ok]

/-- MOVC (R181). -/
theorem moveValue_ok (v : Word) (o : Operand) (s t : State) :
    moveValue v o s = .ok t ↔
      s.placeReaches (o.loc s) ∧ t = (s.putAt (o.loc s) v).finish := by
  simp only [moveValue, bind_ok, write_ok, pure_ok, and_assoc, exists_and_left, exists_eq_left]

/-- MOV (R182). -/
theorem move_ok (o1 o2 : Operand) (s t : State) :
    move o1 o2 s = .ok t ↔
      s.placeReaches (o1.loc s) ∧ s.placeReaches (o2.loc s) ∧
        t = (s.putAt (o2.loc s) (s.valueAt (o1.loc s))).finish := by
  simp only [move, bind_ok, read_ok, write_ok, pure_ok, and_assoc, exists_and_left, exists_eq_left]

/-- A word of a program page into a register (R182, R185, R186). -/
theorem moveProgram_ok (p : Byte) (a : Word) (r : RegNum) (s t : State) :
    moveProgram p a r s = .ok t ↔
      s.reaches (.abs p) a ∧ t = (s.setReg r (s.word p a)).finish := by
  simp only [moveProgram, bind_ok, load_ok, pure_ok, and_assoc, exists_and_left, exists_eq_left]

/-- MOVB, load (R183). -/
theorem moveByteIn_ok (ba : Nat) (r : RegNum) (s t : State) :
    moveByteIn ba r s = .ok t ↔
      s.reaches (.abs s.dataPage) (byteWord ba) ∧
        t = (s.setReg r (zext (if ba % 2 = 0 then lowByte (s.word s.dataPage (byteWord ba))
          else highByte (s.word s.dataPage (byteWord ba))))).finish := by
  simp only [moveByteIn, bind_ok, loadByte_ok, pure_ok, and_assoc, exists_and_left, exists_eq_left]

/-- MOVB, store (R183). -/
theorem moveByteOut_ok (r : RegNum) (ba : Nat) (s t : State) :
    moveByteOut r ba s = .ok t ↔
      s.reaches (.abs s.dataPage) (byteWord ba) ∧
        t = ({ s with mem := s.mem.writeByte (2 * wordIndex s.dataPage (byteWord ba) + ba % 2) (lowByte (s.reg r)) } : State).finish := by
  simp only [moveByteOut, bind_ok, storeByte_ok, pure_ok, and_assoc, exists_and_left, exists_eq_left]

/-- MOVL, load (R184). -/
theorem moveLongIn_ok (a : Word) (r : RegNum) (s t : State) :
    moveLongIn a r s = .ok t ↔
      s.reaches (.abs s.dataPage) a ∧ s.reaches (.abs s.dataPage) (a + 1) ∧
        t = ((s.setReg r (s.word s.dataPage a)).setReg (succReg r) (s.word s.dataPage (a + 1))).finish := by
  simp only [moveLongIn, bind_ok, loadData_ok, pure_ok, and_assoc, exists_and_left, exists_eq_left, State.setReg_reaches, State.setReg_dataPage, State.setReg_word]

/-- MOVL, store (R184). -/
theorem moveLongOut_ok (r : RegNum) (a : Word) (s t : State) :
    moveLongOut r a s = .ok t ↔
      s.reaches (.abs s.dataPage) a ∧ s.reaches (.abs s.dataPage) (a + 1) ∧
        t = ((s.putWord s.dataPage a (s.reg r)).putWord s.dataPage (a + 1) (s.reg (succReg r))).finish := by
  simp only [moveLongOut, bind_ok, storeData_ok, pure_ok, and_assoc, exists_and_left, exists_eq_left, State.putWord_reaches, State.putWord_dataPage, State.putWord_reg]

/-- PUT (R188). -/
theorem put_ok (o : Operand) (f2 : RegNum) (s t : State) :
    put o f2 s = .ok t ↔
      s.placeReaches (o.loc s) ∧ s.reaches (.abs s.dataPage) (s.base + s.reg f2) ∧
        t = (s.putWord s.dataPage (s.base + s.reg f2)
          (merge (s.word s.dataPage (s.base + s.reg f2)) (s.valueAt (o.loc s)) s.mod)).finish := by
  simp only [put, bind_ok, read_ok, loadData_ok, storeData_ok, pure_ok, and_assoc, exists_and_left, exists_eq_left]
  exact ⟨fun ⟨h1, h2, _, h4⟩ => ⟨h1, h2, h4⟩, fun ⟨h1, h2, h4⟩ => ⟨h1, h2, h2, h4⟩⟩

/-- XCH (R189). -/
theorem exchange_ok (o1 o2 : Operand) (s t : State) :
    exchange o1 o2 s = .ok t ↔
      s.placeReaches (o2.loc s) ∧ s.placeReaches (o1.loc s) ∧
        t = ((s.putAt (o2.loc s) (s.valueAt (o1.loc s))).putAt (o1.loc s) (s.valueAt (o2.loc s))).finish := by
  simp only [exchange, bind_ok, read_ok, write_ok, pure_ok, and_assoc, exists_and_left, exists_eq_left, State.putAt_placeReaches]
  exact ⟨fun ⟨h1, h2, _, _, h⟩ => ⟨h1, h2, h⟩, fun ⟨h1, h2, h⟩ => ⟨h1, h2, h1, h2, h⟩⟩

/-- STC, value (R190). -/
theorem stackValue_ok (o : Operand) (f2 : RegNum) (s t : State) :
    stackValue o f2 s = .ok t ↔
      let s1 := s.setReg f2 (s.reg f2 + 1)
      s1.placeReaches (o.loc s1) ∧ s.reaches (.abs s.dataPage) (s.base + (s.reg f2 + 1) + s.mod) ∧
        t = (s1.putWord s.dataPage (s.base + (s.reg f2 + 1) + s.mod) (s1.valueAt (o.loc s1))).finish := by
  simp only [stackValue, bind_ok, read_ok, storeData_ok, pure_ok, and_assoc, exists_and_left, exists_eq_left, State.setReg_reaches, State.setReg_dataPage, State.setReg_base, State.setReg_mod, State.setReg_reg, if_true]

/-- UNS, value (R191). -/
theorem unstackValue_ok (o : Operand) (f2 : RegNum) (s t : State) :
    unstackValue o f2 s = .ok t ↔
      s.reaches (.abs s.dataPage) (s.base + s.reg f2 + s.mod) ∧ s.placeReaches (o.loc s) ∧
        t = ((s.putAt (o.loc s) (s.word s.dataPage (s.base + s.reg f2 + s.mod))).setReg f2
          ((s.putAt (o.loc s) (s.word s.dataPage (s.base + s.reg f2 + s.mod))).reg f2 - 1)).finish := by
  simp only [unstackValue, bind_ok, write_ok, loadData_ok, pure_ok, and_assoc, exists_and_left, exists_eq_left]

/-- JMPI (R204). -/
theorem jumpIndirect_ok (p : Byte) (a : Word) (s t : State) :
    jumpIndirect p a s = .ok t ↔
      s.reaches (.abs p) a ∧ t = s.jumpTo (s.word p a + s.prog) := by
  simp only [jumpIndirect, bind_ok, load_ok, pure_ok, and_assoc, exists_and_left, exists_eq_left]

/-- JPZI (R205). -/
theorem jumpPageZero_ok (k : BitVec 8) (s t : State) :
    jumpPageZero k s = .ok t ↔
      s.reaches (.abs s.progUser) (s.progAddress (zext k)) ∧
        t = (((s.setLevelFlag true).setReg 4 s.link).setPg false).jumpTo (s.word s.progUser (s.progAddress (zext k)) + s.prog) := by
  simp only [jumpPageZero, bind_ok, load_ok, pure_ok, and_assoc, exists_and_left, exists_eq_left]

/-- JON and JOZ (R207, R208). -/
theorem jumpOn_ok (z : Bool) (o : Operand) (d : Word) (s t : State) :
    jumpOn z o d s = .ok t ↔
      s.modified = false ∧ s.placeReaches (o.loc s) ∧
        t = if (s.valueAt (o.loc s) == 0) = z then s.advance (1 + d) else s.advance 1 := by
  unfold jumpOn
  cases h : s.modified
  · simp only [Bool.false_eq_true, if_false, true_and, bind_ok, read_ok, pure_ok, and_assoc, exists_and_left, exists_eq_left]
  · simp

/-- ADD, ADDU, SUB, SUBU (R217 to R220). -/
theorem arithmetic_ok (f : Word → Word → Bool → Sum) (cin : Bool) (o1 o2 : Operand) (s t : State) :
    arithmetic f cin o1 o2 s = .ok t ↔
      s.placeReaches (o1.loc s) ∧ s.placeReaches (o2.loc s) ∧
        t = ((s.putAt (o2.loc s) (f (s.valueAt (o2.loc s)) (s.valueAt (o1.loc s)) cin).result).setCC
          (f (s.valueAt (o2.loc s)) (s.valueAt (o1.loc s)) cin).carry
          (f (s.valueAt (o2.loc s)) (s.valueAt (o1.loc s)) cin).overflow).finish := by
  simp only [arithmetic, bind_ok, read_ok, write_ok, pure_ok, and_assoc, exists_and_left, exists_eq_left]
  exact ⟨fun ⟨h1, h2, _, h⟩ => ⟨h1, h2, h⟩, fun ⟨h1, h2, h⟩ => ⟨h1, h2, h2, h⟩⟩

/-- AND, IOR, XOR (R223 to R225). -/
theorem logic_ok (f : Word → Word → Word) (o1 o2 : Operand) (s t : State) :
    logic f o1 o2 s = .ok t ↔
      s.placeReaches (o1.loc s) ∧ s.placeReaches (o2.loc s) ∧
        t = (s.putAt (o2.loc s) (f (s.valueAt (o2.loc s)) (s.valueAt (o1.loc s)))).finish := by
  simp only [logic, bind_ok, read_ok, write_ok, pure_ok, and_assoc, exists_and_left, exists_eq_left]
  exact ⟨fun ⟨h1, h2, _, h⟩ => ⟨h1, h2, h⟩, fun ⟨h1, h2, h⟩ => ⟨h1, h2, h2, h⟩⟩

/-- An operand replaced by a function of itself (R227 to R231, R236, R237). -/
theorem update_ok (f : Word → Word) (o : Operand) (s t : State) :
    update f o s = .ok t ↔
      s.placeReaches (o.loc s) ∧ t = (s.putAt (o.loc s) (f (s.valueAt (o.loc s)))).finish := by
  simp only [update, bind_ok, read_ok, write_ok, pure_ok, and_assoc, exists_and_left, exists_eq_left]
  exact ⟨fun ⟨h1, _, h⟩ => ⟨h1, h⟩, fun ⟨h1, h⟩ => ⟨h1, h1, h⟩⟩

/-- CLR (R226). -/
theorem clear_ok (o : Operand) (s t : State) :
    clear o s = .ok t ↔
      s.placeReaches (o.loc s) ∧ t = (s.putAt (o.loc s) 0).finish := by
  simp only [clear, bind_ok, write_ok, pure_ok, and_assoc, exists_and_left, exists_eq_left]

/-- DECD and INCD (R232, R233). -/
theorem updateBoth_ok (f : Word → Word) (o1 o2 : Operand) (s t : State) :
    updateBoth f o1 o2 s = .ok t ↔
      s.placeReaches (o1.loc s) ∧ s.placeReaches (o2.loc s) ∧
        t = ((s.putAt (o1.loc s) (f (s.valueAt (o1.loc s)))).putAt (o2.loc s) (f (s.valueAt (o2.loc s)))).finish := by
  simp only [updateBoth, bind_ok, read_ok, write_ok, pure_ok, and_assoc, exists_and_left, exists_eq_left, State.putAt_placeReaches]
  exact ⟨fun ⟨h1, h2, _, _, h⟩ => ⟨h1, h2, h⟩, fun ⟨h1, h2, h⟩ => ⟨h1, h2, h1, h2, h⟩⟩

/-- DDCP and DICP (R234, R235). -/
theorem updatePair_ok (f : Word → Word) (o : Operand) (s t : State) :
    updatePair f o s = .ok t ↔
      s.placeReaches (o.loc s) ∧ s.placeReaches (o.loc s).succ ∧
        t = ((s.putAt (o.loc s) (f (s.valueAt (o.loc s)))).putAt (o.loc s).succ
          (f ((s.putAt (o.loc s) (f (s.valueAt (o.loc s)))).valueAt (o.loc s).succ))).finish := by
  simp only [updatePair, bind_ok, read_ok, write_ok, pure_ok, and_assoc, exists_and_left, exists_eq_left, State.putAt_placeReaches]
  exact ⟨fun ⟨h1, _, h2, _, h⟩ => ⟨h1, h2, h⟩, fun ⟨h1, h2, h⟩ => ⟨h1, h1, h2, h2, h⟩⟩

/-- MUL (R221). -/
theorem multiply_ok (o : Operand) (f2 : RegNum) (s t : State) :
    multiply o f2 s = .ok t ↔
      s.placeReaches (o.loc s) ∧ s.reaches (.abs s.dataPage) (s.base + s.reg f2 + s.mod) ∧
        s.reaches (.abs s.dataPage) (s.base + s.reg f2 + s.mod + 1) ∧
        t = ((s.putWord s.dataPage (s.base + s.reg f2 + s.mod)
            ((product (s.valueAt (o.loc s)) (s.word s.dataPage (s.base + s.reg f2 + s.mod))).extractLsb' 0 16)).putWord s.dataPage
          (s.base + s.reg f2 + s.mod + 1)
            ((product (s.valueAt (o.loc s)) (s.word s.dataPage (s.base + s.reg f2 + s.mod))).extractLsb' 16 16)).finish := by
  simp only [multiply, bind_ok, read_ok, loadData_ok, storeData_ok, pure_ok, and_assoc, exists_and_left, exists_eq_left, State.putWord_reaches, State.putWord_dataPage]
  exact ⟨fun ⟨h1, h2, _, h3, h⟩ => ⟨h1, h2, h3, h⟩, fun ⟨h1, h2, h3, h⟩ => ⟨h1, h2, h2, h3, h⟩⟩

/-- DIV (R222). -/
theorem divide_ok (o : Operand) (r : RegNum) (s t : State) :
    divide o r s = .ok t ↔
      s.placeReaches (o.loc s) ∧
        t = (if s.valueAt (o.loc s) = 0 then s.divideByZero r else s.divideBy r (s.valueAt (o.loc s))).finish := by
  simp only [divide, bind_ok, read_ok, pure_ok, and_assoc, exists_and_left, exists_eq_left]

/-- Skip on bit (R251). -/
theorem skipBit_ok (want pair : Bool) (o : Operand) (c : BitVec 4) (s t : State) :
    skipBit want pair o c s = .ok t ↔
      s.placeReaches (o.loc s) ∧ t = s.skip ((s.valueAt (o.loc s)).getLsbD (s.bitNumber c) == want) pair := by
  simp only [skipBit, bind_ok, read_ok, pure_ok, and_assoc, exists_and_left, exists_eq_left]

/-- Skip on operand (R252). -/
theorem skipZero_ok (z pair : Bool) (o : Operand) (s t : State) :
    skipZero z pair o s = .ok t ↔
      s.placeReaches (o.loc s) ∧ t = s.skip ((s.valueAt (o.loc s) == 0) == z) pair := by
  simp only [skipZero, bind_ok, read_ok, pure_ok, and_assoc, exists_and_left, exists_eq_left]

/-- Skip on condition, constant (R253). -/
theorem skipConstant_ok (rel : Word → Word → Bool) (want pair : Bool) (o : Operand) (c : Word) (s t : State) :
    skipConstant rel want pair o c s = .ok t ↔
      s.placeReaches (o.loc s) ∧ t = s.skip (rel (s.valueAt (o.loc s)) (c + s.mod) == want) pair := by
  simp only [skipConstant, bind_ok, read_ok, pure_ok, and_assoc, exists_and_left, exists_eq_left]

/-- Skip on condition (R253). -/
theorem skipCompare_ok (rel : Word → Word → Bool) (want pair : Bool) (o1 o2 : Operand) (s t : State) :
    skipCompare rel want pair o1 o2 s = .ok t ↔
      s.placeReaches (o1.loc s) ∧ s.placeReaches (o2.loc s) ∧
        t = s.skip (rel (s.valueAt (o1.loc s)) (s.valueAt (o2.loc s)) == want) pair := by
  simp only [skipCompare, bind_ok, read_ok, pure_ok, and_assoc, exists_and_left, exists_eq_left]

/-- A single shift (R280). -/
theorem shift_ok (f : Word → Nat → Word) (o : Operand) (c : BitVec 4) (s t : State) :
    shift f o c s = .ok t ↔
      s.placeReaches (o.loc s) ∧ t = (s.putAt (o.loc s) (f (s.valueAt (o.loc s)) (s.shiftCount c))).finish := by
  simp only [shift, bind_ok, read_ok, write_ok, pure_ok, and_assoc, exists_and_left, exists_eq_left]
  exact ⟨fun ⟨h1, _, h⟩ => ⟨h1, h⟩, fun ⟨h1, h⟩ => ⟨h1, h1, h⟩⟩

/-- A long shift (R285, R286). -/
theorem shiftLong_ok (f : BitVec 32 → Nat → BitVec 32) (o : Operand) (c : BitVec 4) (s t : State) :
    shiftLong f o c s = .ok t ↔
      let r := f (s.valueAt (o.loc s).succ ++ s.valueAt (o.loc s)) (s.shiftCount c)
      s.placeReaches (o.loc s) ∧ s.placeReaches (o.loc s).succ ∧
        t = ((s.putAt (o.loc s) (r.extractLsb' 0 16)).putAt (o.loc s).succ (r.extractLsb' 16 16)).finish := by
  simp only [shiftLong, bind_ok, read_ok, write_ok, pure_ok, and_assoc, exists_and_left, exists_eq_left, State.putAt_placeReaches]
  exact ⟨fun ⟨h1, h2, _, _, h⟩ => ⟨h1, h2, h⟩, fun ⟨h1, h2, h⟩ => ⟨h1, h2, h1, h2, h⟩⟩

/-- CLRS and SETS (R291, R292). -/
theorem changeBit_ok (f : Word → Nat → Word) (o1 o2 : Operand) (s t : State) :
    changeBit f o1 o2 s = .ok t ↔
      s.placeReaches (o2.loc s) ∧ s.placeReaches (o1.loc s) ∧
        t = (s.putAt (o1.loc s) (f (s.valueAt (o1.loc s)) ((s.valueAt (o2.loc s)).toNat % 16))).finish := by
  simp only [changeBit, bind_ok, read_ok, write_ok, pure_ok, and_assoc, exists_and_left, exists_eq_left]
  exact ⟨fun ⟨h1, h2, _, h⟩ => ⟨h1, h2, h⟩, fun ⟨h1, h2, h⟩ => ⟨h1, h2, h2, h⟩⟩

/-- SETS with a constant bit number (R292). -/
theorem changeBitConstant_ok (f : Word → Nat → Word) (o1 : Operand) (c : BitVec 4) (s t : State) :
    changeBitConstant f o1 c s = .ok t ↔
      s.placeReaches (o1.loc s) ∧ t = (s.putAt (o1.loc s) (f (s.valueAt (o1.loc s)) c.toNat)).finish := by
  simp only [changeBitConstant, bind_ok, read_ok, write_ok, pure_ok, and_assoc, exists_and_left, exists_eq_left]
  exact ⟨fun ⟨h1, _, h⟩ => ⟨h1, h⟩, fun ⟨h1, h⟩ => ⟨h1, h1, h⟩⟩

/-- A bit released under semaphore protection (R293, R364). -/
theorem releaseBit_ok (p : Byte) (a : Word) (c : BitVec 4) (s t : State) :
    releaseBit p a c s = .ok t ↔
      s.reaches (.abs p) a ∧ t = { s.putWord p a (clearBit (s.word p a) c.toNat) with semBlock := false } := by
  simp only [releaseBit, underSemaphore_ok, bind_ok, load_ok, store_ok]
  constructor
  · rintro ⟨_, ⟨_, ⟨h1, rfl⟩, _, rfl⟩, rfl⟩; exact ⟨h1, rfl⟩
  · rintro ⟨h1, rfl⟩; exact ⟨_, ⟨_, ⟨h1, rfl⟩, h1, rfl⟩, rfl⟩

/-- A bit reserved under semaphore protection (R294, R363). -/
theorem reserveBit_ok (p : Byte) (a : Word) (c : BitVec 4) (s t : State) :
    reserveBit p a c s = .ok t ↔
      s.reaches (.abs p) a ∧
        t = if (s.word p a).getLsbD c.toNat then { s with semBlock := false }
          else { (s.putWord p a (setBit (s.word p a) c.toNat)).advance 1 with semBlock := false } := by
  simp only [reserveBit, underSemaphore_ok, bind_ok, load_ok]
  have hw : ({ s with semBlock := true } : State).word p a = s.word p a := rfl
  cases h : (s.word p a).getLsbD c.toNat
  · constructor
    · rintro ⟨_, ⟨_, ⟨h1, rfl⟩, h2⟩, rfl⟩
      rw [hw, h] at h2
      simp only [Bool.false_eq_true, if_false, bind_ok, store_ok, pure_ok] at h2
      obtain ⟨_, ⟨_, rfl⟩, rfl⟩ := h2
      exact ⟨h1, rfl⟩
    · rintro ⟨h1, rfl⟩
      refine ⟨({ s with semBlock := true }.putWord p a (setBit (s.word p a) c.toNat)).advance 1, ⟨_, ⟨h1, rfl⟩, ?_⟩, rfl⟩
      rw [hw, h]
      simp only [Bool.false_eq_true, if_false, bind_ok, store_ok, pure_ok]
      exact ⟨_, ⟨h1, rfl⟩, rfl⟩
  · constructor
    · rintro ⟨_, ⟨_, ⟨h1, rfl⟩, h2⟩, rfl⟩
      rw [hw, h] at h2
      simp only [if_true, pure_ok] at h2
      subst h2
      exact ⟨h1, rfl⟩
    · rintro ⟨h1, rfl⟩
      refine ⟨{ s with semBlock := true }, ⟨_, ⟨h1, rfl⟩, ?_⟩, rfl⟩
      rw [hw, h]
      simp only [if_true, pure_ok]

/-- RELS (R293). -/
theorem release_ok (f1 : RegNum) (c : BitVec 4) (s t : State) :
    release f1 c s = .ok t ↔
      s.reaches (.abs s.dataPage) (s.base + s.reg f1) ∧
        t = { (s.putWord s.dataPage (s.base + s.reg f1)
          (clearBit (s.word s.dataPage (s.base + s.reg f1)) c.toNat)).advance 1 with semBlock := false } := by
  simp only [release, bind_ok, releaseBit_ok, pure_ok]
  constructor
  · rintro ⟨_, ⟨h1, rfl⟩, rfl⟩; exact ⟨h1, rfl⟩
  · rintro ⟨h1, rfl⟩; exact ⟨_, ⟨h1, rfl⟩, rfl⟩

/-- RESS (R294). -/
theorem reserve_ok (f1 : RegNum) (c : BitVec 4) (s t : State) :
    reserve f1 c s = .ok t ↔
      s.reaches (.abs s.dataPage) (s.base + s.reg f1) ∧
        t = if (s.word s.dataPage (s.base + s.reg f1)).getLsbD c.toNat then { s.advance 1 with semBlock := false }
          else { ((s.putWord s.dataPage (s.base + s.reg f1)
            (setBit (s.word s.dataPage (s.base + s.reg f1)) c.toNat)).advance 1).advance 1 with semBlock := false } := by
  simp only [reserve, bind_ok, reserveBit_ok, pure_ok]
  constructor
  · rintro ⟨_, ⟨h1, rfl⟩, rfl⟩; refine ⟨h1, ?_⟩; split <;> rfl
  · rintro ⟨h1, rfl⟩; refine ⟨_, ⟨h1, rfl⟩, ?_⟩; split <;> rfl

/-- SIO and RIO (R300). -/
theorem input_ok (k : IoKind) (o : Operand) (f1 : RegNum) (s t : State) :
    input k o f1 s = .ok t ↔
      ∃ v, s.deviceAnswers k (s.device f1) v ∧ s.placeReaches (o.loc s) ∧
        t = ((s.transferred k (s.device f1) (.ioIn k (s.device f1) v)).putAt (o.loc s) v).finish := by
  simp only [input, bind_ok, Prod.exists, ioRead_ok, write_ok, pure_ok]
  constructor
  · rintro ⟨v, _, ⟨h1, rfl⟩, _, ⟨h2, rfl⟩, rfl⟩
    exact ⟨v, h1, by revert h2; cases o.loc s <;> exact id, rfl⟩
  · rintro ⟨v, h1, h2, rfl⟩
    exact ⟨v, _, ⟨h1, rfl⟩, _, ⟨by revert h2; cases o.loc s <;> exact id, rfl⟩, rfl⟩

/-- CIO and WIO (R300). -/
theorem output_ok (k : IoKind) (o : Operand) (f1 : RegNum) (s t : State) :
    output k o f1 s = .ok t ↔
      s.placeReaches (o.loc s) ∧ (∃ w, s.deviceAnswers k (s.device f1) w) ∧
        t = (s.transferred k (s.device f1) (.ioOut k (s.device f1) (s.valueAt (o.loc s)))).finish := by
  simp only [output, bind_ok, read_ok, ioWrite_ok, pure_ok]
  constructor
  · rintro ⟨_, ⟨h1, rfl⟩, _, ⟨h2, rfl⟩, rfl⟩; exact ⟨h1, h2, rfl⟩
  · rintro ⟨h1, h2, rfl⟩; exact ⟨_, ⟨h1, rfl⟩, _, ⟨h2, rfl⟩, rfl⟩

end Sys2Proof.Machine
end

