-- ==== Sys2Proof/Laws/Flags.lean ====
section
/-! SUPPORT. The PSW after its named updates, bit by bit: the condition codes, the page bit, the alternative set bit, the interrupt mask. -/

namespace Sys2Proof.Machine

/-! ### One bit of a word -/

/-- A field put in a word leaves the bits outside it. -/
theorem getLsbD_insertBits_outside {n : Nat} (w : Word) (lo : Nat) (v : BitVec n) (i : Nat) (h : i < lo ∨ lo + n ≤ i) :
    (insertBits w lo v).getLsbD i = w.getLsbD i := by
  by_cases hi : i < 16
  · rw [getLsbD_insertBits _ _ _ _ hi, if_neg (by omega)]
  · rw [BitVec.getLsbD_of_ge _ _ (by omega), BitVec.getLsbD_of_ge _ _ (by omega)]

/-- A bit put in a word stands there. -/
theorem getLsbD_insertBit_same (w : Word) (n : Nat) (b : Bool) (h : n < 16) :
    (insertBits w n (BitVec.ofBool b)).getLsbD n = b := by
  rw [getLsbD_insertBits _ _ _ _ h, if_pos (by omega)]; simp

/-- A state whose PSW differs in one bit that was put in it. -/
theorem pswChanged_of_insertBit {s t : State} {n : Nat} {b : Bool} (hn : n < 16)
    (h : t.psw = insertBits s.psw n (BitVec.ofBool b)) (hf : t.freeCtr = s.freeCtr) : PswChanged s t [(n, b)] := by
  refine ⟨?_, fun i hi => ?_, hf⟩
  · simp only [List.mem_singleton]; rintro _ rfl; rw [h]; exact getLsbD_insertBit_same _ _ _ hn
  · simp at hi; rw [h]; exact getLsbD_insertBits_outside _ _ _ _ (by omega)

/-! ### The condition codes -/

theorem getLsbD_flagNibble (l : FlagLayout) (c v : Bool) (free : Word) (i : Nat) (h : i < 4) :
    (flagNibble l c v free).getLsbD i = flagBit l c v free i := by
  have bits : ∀ a b c d : Bool, ∀ i < 4, (BitVec.ofBool a ++ BitVec.ofBool b ++ BitVec.ofBool c ++ BitVec.ofBool d).getLsbD i =
      if i = 0 then d else if i = 1 then c else if i = 2 then b else a := by decide
  rw [flagNibble, bits _ _ _ _ i h]
  obtain rfl | rfl | rfl | rfl : i = 0 ∨ i = 1 ∨ i = 2 ∨ i = 3 := by omega
  all_goals rfl

theorem carryPlace_lt (l : FlagLayout) : carryPlace l < 4 := l.cPos.isLt

theorem overflowPlace_lt (l : FlagLayout) : overflowPlace l < 4 := Nat.mod_lt _ (by decide)

/-- V never stands where C stands (R43). -/
theorem overflowPlace_ne (l : FlagLayout) : overflowPlace l ≠ carryPlace l := by
  have := l.cPos.isLt; have := l.vGap.isLt
  simp only [overflowPlace, carryPlace]; omega

@[simp] theorem setCC_carry (s : State) (c v : Bool) : (s.setCC c v).carry = c := by
  have h := carryPlace_lt s.plat.flags
  show (insertBits s.psw 4 (flagNibble s.plat.flags c v (s.free 0))).getLsbD (4 + carryPlace s.plat.flags) = c
  rw [getLsbD_insertBits _ _ _ _ (by omega), if_pos (by omega), Nat.add_sub_cancel_left, getLsbD_flagNibble _ _ _ _ _ h,
    flagBit, if_pos rfl]

@[simp] theorem setCC_overflow (s : State) (c v : Bool) : (s.setCC c v).overflow = v := by
  have h := overflowPlace_lt s.plat.flags
  show (insertBits s.psw 4 (flagNibble s.plat.flags c v (s.free 0))).getLsbD (4 + overflowPlace s.plat.flags) = v
  rw [getLsbD_insertBits _ _ _ _ (by omega), if_pos (by omega), Nat.add_sub_cancel_left, getLsbD_flagNibble _ _ _ _ _ h,
    flagBit, if_neg (overflowPlace_ne _), if_pos rfl]

/-- SET CONDITION CODES sets C and V and leaves every PSW bit outside the four flags (R44). -/
theorem setCC_flagsSet (s : State) (c v : Bool) : FlagsSet s (s.setCC c v) c v :=
  ⟨setCC_carry s c v, setCC_overflow s c v, fun _ h => getLsbD_insertBits_outside _ _ _ _ (by omega)⟩

end Sys2Proof.Machine
end

