-- ==== Sys2Proof/Laws/Effects.lean ====
section
/-! SUPPORT. From what a run answers to the whole effect of an instruction, in the words of Safety.lean; and the place that each operand form
resolves to. -/

namespace Sys2Proof.Machine

/-! ### Where an operand is -/

@[simp] theorem loc_reg (s : State) (r : RegNum) : (Operand.reg r).loc s = .reg r := rfl

/-- X3: BASE plus the index register (R131). -/
theorem loc_x3 (s : State) (r : RegNum) : (Operand.x3 r).loc s = .data (s.base + s.reg r) := by
  simp [Operand.loc, DataForm.address, DataForm.offset]

/-- M B0.X3: MOD added (R131, R140). -/
theorem loc_b0x3 (s : State) (r : RegNum) : (Operand.b0x3 r).loc s = .data (s.base + s.reg r + s.mod) := by
  simp [Operand.loc, DataForm.address, DataForm.offset]

/-- M B6.X2 (R130). -/
theorem loc_b6x2 (s : State) (x : BitVec 2) (d : BitVec 6) :
    (Operand.b6x2 x d).loc s = .data (s.base + s.reg (indexReg x) + zext d + s.mod) := by
  simp [Operand.loc, DataForm.address, DataForm.offset, BitVec.add_assoc]

/-- M B8 (R129). -/
theorem loc_b8 (s : State) (k : BitVec 8) : (Operand.b8 k).loc s = .data (s.base + zext k + s.mod) := by
  simp [Operand.loc, DataForm.address, DataForm.offset]

theorem disp_address (s : State) (x : BitVec 2) (d : BitVec 6) (m : Word) :
    (DataForm.disp x d).address s m = s.base + s.reg (indexReg x) + zext d + m := by
  simp [DataForm.address, DataForm.offset, BitVec.add_assoc]

/-! ### Memory -/

/-- A state whose memory differs in one word that was written. -/
theorem wordSet_of_mem {s t : State} {p : Byte} {a v : Word} (h : t.mem = s.mem.writeWord (wordIndex p a) v) : WordSet s t p a v := by
  refine ⟨by simp only [State.word, h, readWord_writeWord_same], fun b hb => ?_⟩
  simp only [List.mem_singleton] at hb
  rw [h, readByte_writeWord_outside _ _ _ _ hb]

/-- A state whose memory differs in one byte that was written. -/
theorem byteSet_of_mem {s t : State} {p : Byte} {ba : Nat} {v : Byte} (h : t.mem = s.mem.writeByte (byteIndex p ba) v) :
    ByteSet s t p ba v := by
  refine ⟨?_, fun b hb => by rw [h, readByte_writeByte, if_neg hb]⟩
  simp only [State.byteAt, State.word, h, Memory.readWord, readByte_writeByte, byteIndex, lowByte_wordOf, highByte_wordOf]
  split
  · rw [if_pos (by omega)]
  · rw [if_pos (by omega)]

/-! ### The cache brackets -/

theorem bracketCache_cacheOn (s : State) (b : Bool) :
    (s.bracketCache b).cacheOn = if s.plat.cpu = .type7 ∧ s.ca = true then b else s.cacheOn := by
  unfold State.bracketCache; split <;> rfl

/-! ### Whole effects -/

theorem answers_of {s t : State} {r : Run State} {i : Instr} {P : State → Prop} (he : exec i s = outcome r) (hr : r = .ok t)
    (hp : P t) : Answers i s P := ⟨t, by rw [he, hr]; rfl, hp⟩

theorem writes_of {i : Instr} {s : State} {r : Run State} {l : Loc} {v : Word} (he : exec i s = outcome r)
    (h : r = .ok (s.putAt l v).finish) : Writes i s l v := by
  subst h
  refine ⟨_, he, ?_, ?_, ?_, ?_⟩
  · have := placeSet_putAt s l v; cases l <;> exact this
  · cases l <;> exact ⟨rfl, rfl⟩
  · cases l <;> rfl
  · cases l <;> exact ⟨rfl, rfl, rfl⟩

theorem writesBoth_of {i : Instr} {s : State} {r : Run State} {l1 l2 : Loc} {v1 v2 : Word} (he : exec i s = outcome r)
    (h : r = .ok ((s.putAt l1 v1).putAt l2 v2).finish) : WritesBoth i s l1 v1 l2 v2 := by
  subst h
  refine ⟨_, he, ⟨fun l => ?_, fun b hb => ?_⟩, ?_, ?_, ?_⟩
  · have : (((s.putAt l1 v1).putAt l2 v2).finish).valueAt l = ((s.putAt l1 v1).putAt l2 v2).valueAt l := by cases l <;> rfl
    rw [this, putAt_valueAt, putAt_valueAt]
  · simp only [List.mem_append, not_or] at hb
    have h2 : ((s.putAt l1 v1).putAt l2 v2).finish.mem.readByte b = (s.putAt l1 v1).mem.readByte b := by
      cases l2 with
      | reg r => rfl
      | data a =>
        have hd : (s.putAt l1 v1).dataPage = s.dataPage := by cases l1 <;> rfl
        exact readByte_writeWord_outside (s.putAt l1 v1).mem (wordIndex (s.putAt l1 v1).dataPage a) v2 b
          (by rw [hd]; simpa only [State.placeWords, List.mem_singleton] using hb.2)
    rw [h2]
    cases l1 with
    | reg r => rfl
    | data a => exact readByte_writeWord_outside _ _ _ _ (by simpa only [State.placeWords, List.mem_singleton] using hb.1)
  · cases l1 <;> cases l2 <;> exact ⟨rfl, rfl⟩
  · cases l1 <;> cases l2 <;> rfl
  · cases l1 <;> cases l2 <;> exact ⟨rfl, rfl, rfl⟩

theorem writesWithFlags_of {i : Instr} {s : State} {run : Run State} {l : Loc} {r : Word} {c v : Bool} (he : exec i s = outcome run)
    (h : run = .ok ((s.putAt l r).setCC c v).finish) : WritesWithFlags i s l r c v := by
  subst h
  refine ⟨_, he, ?_, ?_, ?_, ?_⟩
  · have := placeSet_putAt s l r; cases l <;> exact this
  · have := setCC_flagsSet (s.putAt l r) c v; cases l <;> exact this
  · cases l <;> rfl
  · cases l <;> exact ⟨rfl, rfl, rfl⟩

theorem modifies_of {i : Instr} {s : State} {r : Run State} {v : Word} (he : exec i s = outcome r) (h : r = .ok (s.modify v)) :
    Modifies i s v :=
  answers_of he h ⟨rfl, rfl, rfl, fun _ => rfl, fun _ => rfl, ⟨rfl, rfl⟩, rfl⟩

theorem jumps_of {i : Instr} {s : State} {r : Run State} {a : Word} (he : exec i s = outcome r) (h : r = .ok (s.jumpTo a)) :
    Jumps i s a :=
  answers_of he h ⟨⟨fun _ => rfl, fun _ => rfl, ⟨rfl, rfl⟩, rfl⟩, rfl, rfl, rfl⟩

theorem becomes_of {i : Instr} {s u : State} {r : Run State} (he : exec i s = outcome r) (h : r = .ok u.finish) (hp : u.pc = s.pc) :
    Becomes i s u :=
  answers_of he h ⟨⟨fun _ => rfl, fun _ => rfl, ⟨rfl, rfl⟩, rfl⟩, by show u.pc + 1 = _; rw [hp], rfl, rfl⟩

theorem skips_of {i : Instr} {s : State} {r : Run State} {c : Prop} {pair b : Bool} (he : exec i s = outcome r)
    (h : r = .ok (s.skip b pair)) (hb : b = true ↔ c) : Skips i s c pair := by
  refine answers_of he h ⟨⟨fun _ => rfl, fun _ => rfl, ⟨rfl, rfl⟩, rfl⟩, fun hc => ?_, fun hc => ?_⟩
  · rw [hb.mpr hc]; cases pair <;> exact ⟨rfl, rfl, rfl⟩
  · have hf : b = false := by cases b; rfl; exact absurd (hb.mp rfl) hc
    rw [hf]; exact ⟨rfl, rfl, rfl⟩

end Sys2Proof.Machine
end

