-- ==== Sys2Proof/Laws/Encoding.lean ====
section
/-! SUPPORT. The bits of a word in each format of R122: which field each bit comes from. -/

namespace Sys2Proof

theorem encodeRR_bit (a : BitVec 1) (r : RegNum) (b : BitVec 1) (s : RegNum) (lo : Byte) (i : Nat) :
    (encodeRR a r b s lo).getLsbD i =
      if i < 8 then lo.getLsbD i else
      if i - 8 < 3 then s.getLsbD (i - 8) else
      if i - 8 - 3 < 1 then b.getLsbD (i - 8 - 3) else
      if i - 8 - 3 - 1 < 3 then r.getLsbD (i - 8 - 3 - 1) else
      a.getLsbD (i - 8 - 3 - 1 - 3) := by
  unfold encodeRR
  show BitVec.getLsbD (w := 1 + 3 + 1 + 3 + 8) _ i = _
  simp only [BitVec.getLsbD_append]

theorem encodeRC_bit (a : BitVec 1) (r : RegNum) (c : BitVec 4) (lo : Byte) (i : Nat) :
    (encodeRC a r c lo).getLsbD i =
      if i < 8 then lo.getLsbD i else
      if i - 8 < 4 then c.getLsbD (i - 8) else
      if i - 8 - 4 < 3 then r.getLsbD (i - 8 - 4) else
      a.getLsbD (i - 8 - 4 - 3) := by
  unfold encodeRC
  show BitVec.getLsbD (w := 1 + 3 + 4 + 8) _ i = _
  simp only [BitVec.getLsbD_append]

theorem encodeXD_bit (x : BitVec 2) (d : BitVec 6) (lo : Byte) (i : Nat) :
    (encodeXD x d lo).getLsbD i =
      if i < 8 then lo.getLsbD i else
      if i - 8 < 6 then d.getLsbD (i - 8) else
      x.getLsbD (i - 8 - 6) := by
  unfold encodeXD
  show BitVec.getLsbD (w := 2 + 6 + 8) _ i = _
  simp only [BitVec.getLsbD_append]

theorem encodeXDR3_bit (x : BitVec 2) (d : BitVec 6) (op : BitVec 5) (t : RegNum) (i : Nat) :
    (encodeXDR3 x d op t).getLsbD i =
      if i < 3 then t.getLsbD i else
      if i - 3 < 5 then op.getLsbD (i - 3) else
      if i - 3 - 5 < 6 then d.getLsbD (i - 3 - 5) else
      x.getLsbD (i - 3 - 5 - 6) := by
  unfold encodeXDR3
  show BitVec.getLsbD (w := 2 + 6 + 5 + 3) _ i = _
  simp only [BitVec.getLsbD_append]

theorem encodeXDR2_bit (x : BitVec 2) (d : BitVec 6) (op : BitVec 6) (q : BitVec 2) (i : Nat) :
    (encodeXDR2 x d op q).getLsbD i =
      if i < 2 then q.getLsbD i else
      if i - 2 < 6 then op.getLsbD (i - 2) else
      if i - 2 - 6 < 6 then d.getLsbD (i - 2 - 6) else
      x.getLsbD (i - 2 - 6 - 6) := by
  unfold encodeXDR2
  show BitVec.getLsbD (w := 2 + 6 + 6 + 2) _ i = _
  simp only [BitVec.getLsbD_append]

theorem encodeK8_bit (k lo : BitVec 8) (i : Nat) :
    (encodeK8 k lo).getLsbD i =
      if i < 8 then lo.getLsbD i else
      k.getLsbD (i - 8) := by
  unfold encodeK8
  show BitVec.getLsbD (w := 8 + 8) _ i = _
  simp only [BitVec.getLsbD_append]

theorem encodeK8R3_bit (k : BitVec 8) (op : BitVec 5) (t : RegNum) (i : Nat) :
    (encodeK8R3 k op t).getLsbD i =
      if i < 3 then t.getLsbD i else
      if i - 3 < 5 then op.getLsbD (i - 3) else
      k.getLsbD (i - 3 - 5) := by
  unfold encodeK8R3
  show BitVec.getLsbD (w := 8 + 5 + 3) _ i = _
  simp only [BitVec.getLsbD_append]

theorem encodeK8Q_bit (k : BitVec 8) (op : BitVec 6) (q : BitVec 2) (i : Nat) :
    (encodeK8Q k op q).getLsbD i =
      if i < 2 then q.getLsbD i else
      if i - 2 < 6 then op.getLsbD (i - 2) else
      k.getLsbD (i - 2 - 6) := by
  unfold encodeK8Q
  show BitVec.getLsbD (w := 8 + 6 + 2) _ i = _
  simp only [BitVec.getLsbD_append]

theorem encodeSR_bit (sub : BitVec 4) (b : BitVec 1) (s : RegNum) (lo : Byte) (i : Nat) :
    (encodeSR sub b s lo).getLsbD i =
      if i < 8 then lo.getLsbD i else
      if i - 8 < 3 then s.getLsbD (i - 8) else
      if i - 8 - 3 < 1 then b.getLsbD (i - 8 - 3) else
      sub.getLsbD (i - 8 - 3 - 1) := by
  unfold encodeSR
  show BitVec.getLsbD (w := 4 + 1 + 3 + 8) _ i = _
  simp only [BitVec.getLsbD_append]

theorem encodeSC_bit (sub c : BitVec 4) (lo : Byte) (i : Nat) :
    (encodeSC sub c lo).getLsbD i =
      if i < 8 then lo.getLsbD i else
      if i - 8 < 4 then c.getLsbD (i - 8) else
      sub.getLsbD (i - 8 - 4) := by
  unfold encodeSC
  show BitVec.getLsbD (w := 4 + 4 + 8) _ i = _
  simp only [BitVec.getLsbD_append]

theorem encodeBlock_bit (a : BitVec 1) (r : RegNum) (b : BitVec 1) (s : RegNum) (op : BitVec 5) (t : RegNum) (i : Nat) :
    (encodeBlock a r b s op t).getLsbD i =
      if i < 3 then t.getLsbD i else
      if i - 3 < 5 then op.getLsbD (i - 3) else
      if i - 3 - 5 < 3 then s.getLsbD (i - 3 - 5) else
      if i - 3 - 5 - 3 < 1 then b.getLsbD (i - 3 - 5 - 3) else
      if i - 3 - 5 - 3 - 1 < 3 then r.getLsbD (i - 3 - 5 - 3 - 1) else
      a.getLsbD (i - 3 - 5 - 3 - 1 - 3) := by
  unfold encodeBlock
  show BitVec.getLsbD (w := 1 + 3 + 1 + 3 + 5 + 3) _ i = _
  simp only [BitVec.getLsbD_append]

end Sys2Proof
end

