-- ==== Sys2Proof/Laws/Launch.lean ====
section
/-! SUPPORT. What a launch answers and where a run can end (Machine/Run.lean). -/

namespace Sys2Proof.Machine

/-- The conditions of R421, one by one. -/
theorem launchable_iff (s : State) (alternative : Bool) :
    s.launchable alternative = true ↔ s.mod = 0 ∧ s.modified = false ∧ (alternative = false → s.alt = false) ∧ s.semBlock = false ∧
      s.instr = none ∧ s.awaitingNmi = false := by
  simp only [State.launchable, Bool.and_eq_true, beq_iff_eq, Bool.not_eq_true', Bool.or_eq_true, Option.isNone_iff_eq_none, and_assoc]
  cases alternative <;> simp

/-- A launch goes on in the state it is given, where that state meets R421. -/
theorem launch_next (s t : State) (alternative : Bool) : s.launch alternative = .next t ↔ s.launchable alternative = true ∧ t = s := by
  unfold State.launch
  split <;> rename_i h <;> simp only [h, true_and, false_and, iff_false, Bool.false_eq_true, Host.Outcome.next.injEq, @eq_comm _ t]
  exact fun h => nomatch h

/-- What every step keeps, every end by the step budget or at the end address has (R441). -/
theorem runSteps_keeps (P : State → Prop) (hstep : ∀ s t, P s → step s = .next t → P t) (n : Nat) (s t : State) (hs : P s)
    (h : runSteps n s = .stepBudget t ∨ runSteps n s = .endAddress t) : P t := by
  induction n generalizing s with
  | zero =>
    unfold runSteps at h
    split at h <;> rcases h with h | h <;> first | (cases h; exact hs) | cases h
  | succ n ih =>
    unfold runSteps at h
    split at h
    · rcases h with h | h <;> first | (cases h; exact hs) | cases h
    · cases hst : step s with
      | next u => rw [hst] at h; exact ih u (hstep s u hs hst) h
      | fault f => rw [hst] at h; rcases h with h | h <;> exact nomatch h
      | refused r => rw [hst] at h; rcases h with h | h <;> exact nomatch h

end Sys2Proof.Machine
end

