-- ==== Sys2Proof/Laws/PerInstr.lean ====
section
/-! SUPPORT. The statement made per instruction: its word agrees with its row of spec/opcode_table.json (`match` under `mask`). The masks and
matches below are the table's own numbers; `encode` (Decode.lean) was written from the formats of R122. -/

namespace Sys2Proof.Laws.EncodedRow

open Sys2Proof

/-- A flag of format RR at its bit. -/
def flag (b : Bool) (n : Nat) : Word := if b then 1#16 <<< n else 0#16

/-- The two low bits that name a return link register (R125). -/
def linkNumber : Link → Word
  | .s4 => 1#16
  | .s5 => 2#16
  | .s6 => 3#16

/-- The `mask` and the `match` of the instruction's row of the opcode table. -/
def row : Instr → Word × Word
  | .sltpRC _ _ => (0x80FF#16, 0x8000#16)
  | .sltpXC _ _ => (0x80FF#16, 0x8001#16)
  | .sgepRC _ _ => (0x80FF#16, 0x8002#16)
  | .sgepXC _ _ => (0x80FF#16, 0x8003#16)
  | .slopRC _ _ => (0x80FF#16, 0x8004#16)
  | .slopXC _ _ => (0x80FF#16, 0x8005#16)
  | .shspRC _ _ => (0x80FF#16, 0x8006#16)
  | .shspXC _ _ => (0x80FF#16, 0x8007#16)
  | .sltRC _ _ => (0x80FF#16, 0x8040#16)
  | .sltXC _ _ => (0x80FF#16, 0x8041#16)
  | .sgeRC _ _ => (0x80FF#16, 0x8042#16)
  | .sgeXC _ _ => (0x80FF#16, 0x8043#16)
  | .sloRC _ _ => (0x80FF#16, 0x8044#16)
  | .sloXC _ _ => (0x80FF#16, 0x8045#16)
  | .shsRC _ _ => (0x80FF#16, 0x8046#16)
  | .shsXC _ _ => (0x80FF#16, 0x8047#16)
  | .addRB6 _ _ _ => (0x00F8#16, 0x0008#16)
  | .movcCn4X _ _ => (0x80FF#16, 0x0010#16)
  | .rels _ _ => (0x80FF#16, 0x0011#16)
  | .mmp _ _ => (0x88FF#16, 0x8011#16)
  | .jmpiB6 _ _ => (0x00FF#16, 0x0012#16)
  | .dec _ _ => (0x00FF#16, 0x0013#16)
  | .modnB8 _ => (0x00FF#16, 0x0014#16)
  | .modnP8 _ => (0x00FF#16, 0x0015#16)
  | .inc _ _ => (0x00FF#16, 0x0016#16)
  | .jpzi _ => (0x00FF#16, 0x0017#16)
  | .movB6R _ _ _ => (0x00F8#16, 0x0018#16)
  | .mvp _ _ _ => (0x00FC#16, 0x0020#16)
  | .srlRC _ _ => (0x80FF#16, 0x8024#16)
  | .srllRC _ _ => (0x80FF#16, 0x0025#16)
  | .sraRC _ _ => (0x80FF#16, 0x8026#16)
  | .clr _ _ => (0x00FF#16, 0x0027#16)
  | .movcCn8R _ _ => (0x00F8#16, 0x0028#16)
  | .addB6R _ _ _ => (0x00F8#16, 0x0030#16)
  | .sozp _ _ => (0x00FF#16, 0x0038#16)
  | .sonp _ _ => (0x00FF#16, 0x0039#16)
  | .soz _ _ => (0x00FF#16, 0x003A#16)
  | .son _ _ => (0x00FF#16, 0x003B#16)
  | .snepRCn _ _ => (0x80FF#16, 0x003C#16)
  | .snepRC _ _ => (0x80FF#16, 0x803C#16)
  | .snepXCn _ _ => (0x80FF#16, 0x003D#16)
  | .snepXC _ _ => (0x80FF#16, 0x803D#16)
  | .seqpRCn _ _ => (0x80FF#16, 0x003E#16)
  | .seqpRC _ _ => (0x80FF#16, 0x803E#16)
  | .seqpXCn _ _ => (0x80FF#16, 0x003F#16)
  | .seqpXC _ _ => (0x80FF#16, 0x803F#16)
  | .sneRCn _ _ => (0x80FF#16, 0x007C#16)
  | .sneRC _ _ => (0x80FF#16, 0x807C#16)
  | .sneXCn _ _ => (0x80FF#16, 0x007D#16)
  | .sneXC _ _ => (0x80FF#16, 0x807D#16)
  | .seqRCn _ _ => (0x80FF#16, 0x007E#16)
  | .seqRC _ _ => (0x80FF#16, 0x807E#16)
  | .seqXCn _ _ => (0x80FF#16, 0x007F#16)
  | .seqXC _ _ => (0x80FF#16, 0x807F#16)
  | .movcC8R _ _ => (0x00F8#16, 0x0048#16)
  | .movcC4X _ _ => (0x80FF#16, 0x0050#16)
  | .ress _ _ => (0x80FF#16, 0x0051#16)
  | .setsR _ b _ => (0x88FF#16, 0x0052#16 ||| flag b 11)
  | .setsX _ b _ => (0x88FF#16, 0x8053#16 ||| flag b 11)
  | .modB6 _ _ => (0x00FF#16, 0x0054#16)
  | .modnB6 _ _ => (0x00FF#16, 0x0055#16)
  | .mod8 _ => (0x00FF#16, 0x0056#16)
  | .jmpLn10 _ _ => (0x00FC#16, 0x0058#16)
  | .jmpLn8 _ => (0x00FF#16, 0x005C#16)
  | .jmpS2Ln8 _ l => (0x00FF#16, 0x005C#16 ||| linkNumber l)
  | .movlLoad _ _ _ => (0x00FC#16, 0x0060#16)
  | .srlXC _ _ => (0x80FF#16, 0x8064#16)
  | .srllXC _ _ => (0x80FF#16, 0x0065#16)
  | .sraXC _ _ => (0x80FF#16, 0x8066#16)
  | .sxt _ _ => (0x80FF#16, 0x0067#16)
  | .movB8R _ _ => (0x00F8#16, 0x0068#16)
  | .movRB8 _ _ => (0x00F8#16, 0x0070#16)
  | .movbLoad _ _ _ => (0x00FC#16, 0x0078#16)
  | .movRB6 _ _ _ => (0x00F8#16, 0x0080#16)
  | .clrsR _ b _ => (0x88FF#16, 0x0088#16 ||| flag b 11)
  | .clrsX _ b _ => (0x88FF#16, 0x8089#16 ||| flag b 11)
  | .addRR a _ b _ => (0x88FF#16, 0x008A#16 ||| flag a 15 ||| flag b 11)
  | .subRR a _ b _ => (0x88FF#16, 0x008B#16 ||| flag a 15 ||| flag b 11)
  | .andRR a _ b _ => (0x88FF#16, 0x008C#16 ||| flag a 15 ||| flag b 11)
  | .iorRR a _ b _ => (0x88FF#16, 0x008D#16 ||| flag a 15 ||| flag b 11)
  | .incdRR _ _ => (0x88FF#16, 0x008E#16)
  | .decdRR _ _ => (0x88FF#16, 0x088E#16)
  | .incdXM _ _ => (0x88FF#16, 0x808F#16)
  | .decdXM _ _ => (0x88FF#16, 0x888F#16)
  | .movbStore _ _ _ => (0x00FC#16, 0x0090#16)
  | .modB8 _ => (0x00FF#16, 0x0094#16)
  | .modP8 _ => (0x00FF#16, 0x0095#16)
  | .sioR _ _ => (0x88FF#16, 0x0896#16)
  | .cioR _ _ => (0x88FF#16, 0x8896#16)
  | .rioR _ _ => (0x88FF#16, 0x0897#16)
  | .wioR _ _ => (0x88FF#16, 0x8897#16)
  | .movP8R _ _ => (0x00F8#16, 0x0098#16)
  | .sllRC _ _ => (0x80FF#16, 0x80A0#16)
  | .slllRC _ _ => (0x80FF#16, 0x00A1#16)
  | .slcRC _ _ => (0x80FF#16, 0x80A2#16)
  | .setsRC _ _ => (0x80FF#16, 0x00A3#16)
  | .modcCn8 _ => (0x00FF#16, 0x00A4#16)
  | .mod4Cn8 _ => (0x00FF#16, 0x00A5#16)
  | .mon _ => (0x00FF#16, 0x00A6#16)
  | .rpz _ _ => (0x00FF#16, 0x00A7#16)
  | .addcCn8R _ _ => (0x00F8#16, 0x00A8#16)
  | .sbnpRC _ _ => (0x80FF#16, 0x00B0#16)
  | .jonRLn4 _ _ => (0x80FF#16, 0x80B0#16)
  | .sbnpXC _ _ => (0x80FF#16, 0x00B1#16)
  | .jonXLn4 _ _ => (0x80FF#16, 0x80B1#16)
  | .sbzpRC _ _ => (0x80FF#16, 0x00B2#16)
  | .jozRLn4 _ _ => (0x80FF#16, 0x80B2#16)
  | .sbzpXC _ _ => (0x80FF#16, 0x00B3#16)
  | .jozXLn4 _ _ => (0x80FF#16, 0x80B3#16)
  | .sbnRC _ _ => (0x80FF#16, 0x00F0#16)
  | .jonRL4 _ _ => (0x80FF#16, 0x80F0#16)
  | .sbnXC _ _ => (0x80FF#16, 0x00F1#16)
  | .jonXL4 _ _ => (0x80FF#16, 0x80F1#16)
  | .sbzRC _ _ => (0x80FF#16, 0x00F2#16)
  | .jozRL4 _ _ => (0x80FF#16, 0x80F2#16)
  | .sbzXC _ _ => (0x80FF#16, 0x00F3#16)
  | .jozXL4 _ _ => (0x80FF#16, 0x80F3#16)
  | .sltpRR a _ b _ => (0x88FF#16, 0x00B4#16 ||| flag a 15 ||| flag b 11)
  | .slopRR a _ b _ => (0x88FF#16, 0x00B5#16 ||| flag a 15 ||| flag b 11)
  | .sgepRR a _ b _ => (0x88FF#16, 0x00B6#16 ||| flag a 15 ||| flag b 11)
  | .shspRR a _ b _ => (0x88FF#16, 0x00B7#16 ||| flag a 15 ||| flag b 11)
  | .snepRR a _ b _ => (0x88FF#16, 0x00B8#16 ||| flag a 15 ||| flag b 11)
  | .stcRM _ _ => (0x88FF#16, 0x00B9#16)
  | .unsRM _ _ => (0x88FF#16, 0x08B9#16)
  | .seqpRR a _ b _ => (0x88FF#16, 0x00BA#16 ||| flag a 15 ||| flag b 11)
  | .movR a _ _ => (0x88FF#16, 0x08BB#16 ||| flag a 15)
  | .jmpP6 _ _ => (0x00FF#16, 0x00BF#16)
  | .sob _ _ => (0x00F8#16, 0x00C0#16)
  | .addcC8R _ _ => (0x00F8#16, 0x00C8#16)
  | .movlStore _ _ _ => (0x00FC#16, 0x00D0#16)
  | .adduRR a _ b _ => (0x88FF#16, 0x00D4#16 ||| flag a 15 ||| flag b 11)
  | .subuRR a _ b _ => (0x88FF#16, 0x00D5#16 ||| flag a 15 ||| flag b 11)
  | .sioX _ _ => (0x88FF#16, 0x08D6#16)
  | .cioX _ _ => (0x88FF#16, 0x88D6#16)
  | .rioX _ _ => (0x88FF#16, 0x08D7#16)
  | .wioX _ _ => (0x88FF#16, 0x88D7#16)
  | .jmpL10 _ _ => (0x00FC#16, 0x00D8#16)
  | .jmpL8 _ => (0x00FF#16, 0x00DC#16)
  | .jmpS2L8 _ l => (0x00FF#16, 0x00DC#16 ||| linkNumber l)
  | .sllXC _ _ => (0x80FF#16, 0x80E0#16)
  | .slllXC _ _ => (0x80FF#16, 0x00E1#16)
  | .slcXC _ _ => (0x80FF#16, 0x80E2#16)
  | .setsXC _ _ => (0x80FF#16, 0x00E3#16)
  | .rtmi _ => (0xC0FF#16, 0x80E3#16)
  | .modcC8 _ => (0x00FF#16, 0x00E4#16)
  | .mod4C8 _ => (0x00FF#16, 0x00E5#16)
  | .rtm _ _ => (0x00FF#16, 0x00E6#16)
  | .jmpiB8 _ => (0x00FF#16, 0x00E7#16)
  | .xor a _ _ => (0x88FF#16, 0x00E8#16 ||| flag a 15)
  | .putX _ _ => (0x88FF#16, 0x88E8#16)
  | .movm _ _ => (0x88FF#16, 0x08E9#16)
  | .putR _ _ => (0x88FF#16, 0x88E9#16)
  | .mul a _ _ => (0x88FF#16, 0x08EA#16 ||| flag a 15)
  | .div a _ _ => (0x88FF#16, 0x00EB#16 ||| flag a 15)
  | .xtrRC _ _ => (0x80FF#16, 0x00EC#16)
  | .xtrXC _ _ => (0x80FF#16, 0x80ED#16)
  | .xchR _ b _ => (0x88FF#16, 0x00EE#16 ||| flag b 11)
  | .xchX _ b _ => (0x88FF#16, 0x80EF#16 ||| flag b 11)
  | .sltRR a _ b _ => (0x88FF#16, 0x00F4#16 ||| flag a 15 ||| flag b 11)
  | .sloRR a _ b _ => (0x88FF#16, 0x00F5#16 ||| flag a 15 ||| flag b 11)
  | .sgeRR a _ b _ => (0x88FF#16, 0x00F6#16 ||| flag a 15 ||| flag b 11)
  | .shsRR a _ b _ => (0x88FF#16, 0x00F7#16 ||| flag a 15 ||| flag b 11)
  | .sneRR a _ b _ => (0x88FF#16, 0x00F8#16 ||| flag a 15 ||| flag b 11)
  | .stcXM _ _ => (0x88FF#16, 0x00F9#16)
  | .unsXM _ _ => (0x88FF#16, 0x08F9#16)
  | .seqRR a _ b _ => (0x88FF#16, 0x00FA#16 ||| flag a 15 ||| flag b 11)
  | .movX a _ _ => (0x88FF#16, 0x08FB#16 ||| flag a 15)
  | .jmpiP8 _ => (0x00FF#16, 0x00FC#16)
  | .jmpiS2P8 _ l => (0x00FF#16, 0x00FC#16 ||| linkNumber l)
  | .ldpR _ => (0xF8FF#16, 0x00BC#16)
  | .ldpM _ => (0xF8FF#16, 0x08BC#16)
  | .sssR _ => (0xF8FF#16, 0x10BC#16)
  | .sssM _ => (0xF8FF#16, 0x18BC#16)
  | .dicpR _ => (0xF8FF#16, 0x20BC#16)
  | .dicpM _ => (0xF8FF#16, 0x28BC#16)
  | .ddcpR _ => (0xF8FF#16, 0x30BC#16)
  | .ddcpM _ => (0xF8FF#16, 0x38BC#16)
  | .ldnR _ => (0xF8FF#16, 0x40BC#16)
  | .ldnM _ => (0xF8FF#16, 0x48BC#16)
  | .ldtR _ => (0xF8FF#16, 0x50BC#16)
  | .ldtM _ => (0xF8FF#16, 0x58BC#16)
  | .swpR _ => (0xF8FF#16, 0x60BC#16)
  | .swpM _ => (0xF8FF#16, 0x68BC#16)
  | .xcu _ => (0xF8FF#16, 0x80BC#16)
  | .xcui _ => (0xF8FF#16, 0x88BC#16)
  | .invR _ => (0xF8FF#16, 0x90BC#16)
  | .invM _ => (0xF8FF#16, 0x98BC#16)
  | .svtR _ => (0xF8FF#16, 0xC0BC#16)
  | .svtM _ => (0xF8FF#16, 0xC8BC#16)
  | .svsR _ => (0xF8FF#16, 0xD0BC#16)
  | .svsM _ => (0xF8FF#16, 0xD8BC#16)
  | .ldsR _ => (0xF8FF#16, 0xE0BC#16)
  | .ldsM _ => (0xF8FF#16, 0xE8BC#16)
  | .negR _ => (0xF8FF#16, 0xF0BC#16)
  | .negM _ => (0xF8FF#16, 0xF8BC#16)
  | .slsR _ => (0xF8FF#16, 0x00BD#16)
  | .slsM _ => (0xF8FF#16, 0x08BD#16)
  | .modnR _ => (0xF8FF#16, 0x30BD#16)
  | .modnX _ => (0xF8FF#16, 0x38BD#16)
  | .svlR _ => (0xF8FF#16, 0x50BD#16)
  | .svlM _ => (0xF8FF#16, 0x58BD#16)
  | .modR _ => (0xF8FF#16, 0x70BD#16)
  | .modX _ => (0xF8FF#16, 0x78BD#16)
  | .ldlR _ => (0xF8FF#16, 0x80BD#16)
  | .ldlM _ => (0xF8FF#16, 0x88BD#16)
  | .trp _ => (0xF0FF#16, 0x00BE#16)
  | .svp _ => (0xF0FF#16, 0x20BE#16)
  | .cpuR _ => (0xF8FF#16, 0x60BE#16)
  | .cpuM _ => (0xF8FF#16, 0x68BE#16)
  | .jvnLn4 _ => (0xF0FF#16, 0x70BE#16)
  | .unsC4 _ => (0xF0FF#16, 0xA0BE#16)
  | .ldm _ => (0xF0FF#16, 0xD0BE#16)
  | .stcC4 _ => (0xF0FF#16, 0xE0BE#16)
  | .jvnL4 _ => (0xF0FF#16, 0xF0BE#16)
  | .aamow _ _ _ => (0x88F8#16, 0x0080#16)
  | .lamow _ _ _ => (0x88F8#16, 0x8080#16)
  | .almow _ _ _ => (0x88F8#16, 0x0880#16)
  | .aamob _ _ _ => (0x88F8#16, 0x0088#16)
  | .lamob _ _ _ => (0x88F8#16, 0x8088#16)
  | .almob _ _ _ => (0x88F8#16, 0x0888#16)
  | .amowStore _ _ => (0x88FF#16, 0x0091#16)
  | .amowLoad _ _ => (0x88FF#16, 0x0891#16)
  | .amobStore _ _ => (0x88FF#16, 0x8091#16)
  | .amobLoad _ _ => (0x88FF#16, 0x8891#16)
  | .aress _ _ => (0x80FF#16, 0x0092#16)
  | .arels _ _ => (0x80FF#16, 0x8092#16)
  | .drdR _ _ => (0x88FF#16, 0x0093#16)
  | .drdX _ _ => (0x88FF#16, 0x0893#16)
  | .dwrR _ _ => (0x88FF#16, 0x8093#16)
  | .dwrX _ _ => (0x88FF#16, 0x8893#16)
  | .mrdR _ _ => (0x88FF#16, 0x0051#16)
  | .mrdX _ _ => (0x88FF#16, 0x0851#16)
  | .mwrR _ _ => (0x88FF#16, 0x8051#16)
  | .mwrX _ _ => (0x88FF#16, 0x8851#16)
  | .rspR _ => (0x8FFF#16, 0x0052#16)
  | .rspX _ => (0x8FFF#16, 0x0852#16)
  | .wspR _ => (0x8FFF#16, 0x8052#16)
  | .wspX _ => (0x8FFF#16, 0x8852#16)
  | .arsc _ _ => (0x88FF#16, 0x0053#16)
  | .ared _ _ => (0x88FF#16, 0x8053#16)
  | .alt => (0xFFFF#16, 0xB0BC#16)
  | .lbr => (0xFFFF#16, 0xB1BC#16)
  | .nmi => (0xFFFF#16, 0xB2BC#16)
  | .cae => (0xFFFF#16, 0x80BE#16)
  | .cad => (0xFFFF#16, 0x81BE#16)
  | .tst => (0xFFFF#16, 0x83BE#16)

/-- The fixed bits of the word are those of the row. -/
def Statement (i : Instr) : Prop := encode i &&& (row i).1 = (row i).2

/-! ### The fixed bits of each format -/

theorem encodeRR_fixed_88FF (a : BitVec 1) (r : RegNum) (b : BitVec 1) (s : RegNum) (lo : Byte) : encodeRR a r b s lo &&& 0x88FF#16 = encodeRR a 0#3 b 0#3 lo := by
  apply BitVec.eq_of_getLsbD_eq; intro i hi; rw [BitVec.getLsbD_and, encodeRR_bit, encodeRR_bit]
  interval_cases i <;> simp
theorem encodeRC_fixed_80FF (a : BitVec 1) (r : RegNum) (c : BitVec 4) (lo : Byte) : encodeRC a r c lo &&& 0x80FF#16 = encodeRC a 0#3 0#4 lo := by
  apply BitVec.eq_of_getLsbD_eq; intro i hi; rw [BitVec.getLsbD_and, encodeRC_bit, encodeRC_bit]
  interval_cases i <;> simp
theorem encodeXD_fixed_00FF (x : BitVec 2) (d : BitVec 6) (lo : Byte) : encodeXD x d lo &&& 0x00FF#16 = encodeXD 0#2 0#6 lo := by
  apply BitVec.eq_of_getLsbD_eq; intro i hi; rw [BitVec.getLsbD_and, encodeXD_bit, encodeXD_bit]
  interval_cases i <;> simp
theorem encodeXDR3_fixed_00F8 (x : BitVec 2) (d : BitVec 6) (op : BitVec 5) (t : RegNum) : encodeXDR3 x d op t &&& 0x00F8#16 = encodeXDR3 0#2 0#6 op 0#3 := by
  apply BitVec.eq_of_getLsbD_eq; intro i hi; rw [BitVec.getLsbD_and, encodeXDR3_bit, encodeXDR3_bit]
  interval_cases i <;> simp
theorem encodeXDR2_fixed_00FC (x : BitVec 2) (d : BitVec 6) (op : BitVec 6) (q : BitVec 2) : encodeXDR2 x d op q &&& 0x00FC#16 = encodeXDR2 0#2 0#6 op 0#2 := by
  apply BitVec.eq_of_getLsbD_eq; intro i hi; rw [BitVec.getLsbD_and, encodeXDR2_bit, encodeXDR2_bit]
  interval_cases i <;> simp
theorem encodeK8_fixed_00FF (k lo : BitVec 8) : encodeK8 k lo &&& 0x00FF#16 = encodeK8 0#8 lo := by
  apply BitVec.eq_of_getLsbD_eq; intro i hi; rw [BitVec.getLsbD_and, encodeK8_bit, encodeK8_bit]
  interval_cases i <;> simp
theorem encodeK8R3_fixed_00F8 (k : BitVec 8) (op : BitVec 5) (t : RegNum) : encodeK8R3 k op t &&& 0x00F8#16 = encodeK8R3 0#8 op 0#3 := by
  apply BitVec.eq_of_getLsbD_eq; intro i hi; rw [BitVec.getLsbD_and, encodeK8R3_bit, encodeK8R3_bit]
  interval_cases i <;> simp
theorem encodeK8Q_fixed_00FC (k : BitVec 8) (op : BitVec 6) (q : BitVec 2) : encodeK8Q k op q &&& 0x00FC#16 = encodeK8Q 0#8 op 0#2 := by
  apply BitVec.eq_of_getLsbD_eq; intro i hi; rw [BitVec.getLsbD_and, encodeK8Q_bit, encodeK8Q_bit]
  interval_cases i <;> simp
theorem encodeK8Q_fixed_00FF (k : BitVec 8) (op : BitVec 6) (q : BitVec 2) : encodeK8Q k op q &&& 0x00FF#16 = encodeK8Q 0#8 op q := by
  apply BitVec.eq_of_getLsbD_eq; intro i hi; rw [BitVec.getLsbD_and, encodeK8Q_bit, encodeK8Q_bit]
  interval_cases i <;> simp
theorem encodeSR_fixed_F8FF (sub : BitVec 4) (b : BitVec 1) (s : RegNum) (lo : Byte) : encodeSR sub b s lo &&& 0xF8FF#16 = encodeSR sub b 0#3 lo := by
  apply BitVec.eq_of_getLsbD_eq; intro i hi; rw [BitVec.getLsbD_and, encodeSR_bit, encodeSR_bit]
  interval_cases i <;> simp
theorem encodeSC_fixed_F0FF (sub c : BitVec 4) (lo : Byte) : encodeSC sub c lo &&& 0xF0FF#16 = encodeSC sub 0#4 lo := by
  apply BitVec.eq_of_getLsbD_eq; intro i hi; rw [BitVec.getLsbD_and, encodeSC_bit, encodeSC_bit]
  interval_cases i <;> simp
theorem encodeBlock_fixed_88F8 (a : BitVec 1) (r : RegNum) (b : BitVec 1) (s : RegNum) (op : BitVec 5) (t : RegNum) : encodeBlock a r b s op t &&& 0x88F8#16 = encodeBlock a 0#3 b 0#3 op 0#3 := by
  apply BitVec.eq_of_getLsbD_eq; intro i hi; rw [BitVec.getLsbD_and, encodeBlock_bit, encodeBlock_bit]
  interval_cases i <;> simp
theorem encodeXD_fixed_C0FF (x : BitVec 2) (d : BitVec 6) (lo : Byte) : encodeXD x d lo &&& 0xC0FF#16 = encodeXD x 0#6 lo := by
  apply BitVec.eq_of_getLsbD_eq; intro i hi; rw [BitVec.getLsbD_and, encodeXD_bit, encodeXD_bit]
  interval_cases i <;> simp
theorem encodeRR_fixed_8FFF (a : BitVec 1) (r : RegNum) (b : BitVec 1) (s : RegNum) (lo : Byte) : encodeRR a r b s lo &&& 0x8FFF#16 = encodeRR a 0#3 b s lo := by
  apply BitVec.eq_of_getLsbD_eq; intro i hi; rw [BitVec.getLsbD_and, encodeRR_bit, encodeRR_bit]
  interval_cases i <;> simp

/-! ### The instructions -/

theorem sltpRC (f1 : RegNum) (c : BitVec 4) : Statement (.sltpRC f1 c) := encodeRC_fixed_80FF _ _ _ _
theorem sltpXC (f1 : RegNum) (c : BitVec 4) : Statement (.sltpXC f1 c) := encodeRC_fixed_80FF _ _ _ _
theorem sgepRC (f1 : RegNum) (c : BitVec 4) : Statement (.sgepRC f1 c) := encodeRC_fixed_80FF _ _ _ _
theorem sgepXC (f1 : RegNum) (c : BitVec 4) : Statement (.sgepXC f1 c) := encodeRC_fixed_80FF _ _ _ _
theorem slopRC (f1 : RegNum) (c : BitVec 4) : Statement (.slopRC f1 c) := encodeRC_fixed_80FF _ _ _ _
theorem slopXC (f1 : RegNum) (c : BitVec 4) : Statement (.slopXC f1 c) := encodeRC_fixed_80FF _ _ _ _
theorem shspRC (f1 : RegNum) (c : BitVec 4) : Statement (.shspRC f1 c) := encodeRC_fixed_80FF _ _ _ _
theorem shspXC (f1 : RegNum) (c : BitVec 4) : Statement (.shspXC f1 c) := encodeRC_fixed_80FF _ _ _ _
theorem sltRC (f1 : RegNum) (c : BitVec 4) : Statement (.sltRC f1 c) := encodeRC_fixed_80FF _ _ _ _
theorem sltXC (f1 : RegNum) (c : BitVec 4) : Statement (.sltXC f1 c) := encodeRC_fixed_80FF _ _ _ _
theorem sgeRC (f1 : RegNum) (c : BitVec 4) : Statement (.sgeRC f1 c) := encodeRC_fixed_80FF _ _ _ _
theorem sgeXC (f1 : RegNum) (c : BitVec 4) : Statement (.sgeXC f1 c) := encodeRC_fixed_80FF _ _ _ _
theorem sloRC (f1 : RegNum) (c : BitVec 4) : Statement (.sloRC f1 c) := encodeRC_fixed_80FF _ _ _ _
theorem sloXC (f1 : RegNum) (c : BitVec 4) : Statement (.sloXC f1 c) := encodeRC_fixed_80FF _ _ _ _
theorem shsRC (f1 : RegNum) (c : BitVec 4) : Statement (.shsRC f1 c) := encodeRC_fixed_80FF _ _ _ _
theorem shsXC (f1 : RegNum) (c : BitVec 4) : Statement (.shsXC f1 c) := encodeRC_fixed_80FF _ _ _ _
theorem addRB6 (x : BitVec 2) (d : BitVec 6) (t : RegNum) : Statement (.addRB6 x d t) := encodeXDR3_fixed_00F8 _ _ _ _
theorem movcCn4X (f1 : RegNum) (c : BitVec 4) : Statement (.movcCn4X f1 c) := encodeRC_fixed_80FF _ _ _ _
theorem rels (f1 : RegNum) (c : BitVec 4) : Statement (.rels f1 c) := encodeRC_fixed_80FF _ _ _ _
theorem mmp (f1 f2 : RegNum) : Statement (.mmp f1 f2) := encodeRR_fixed_88FF _ _ _ _ _
theorem jmpiB6 (x : BitVec 2) (d : BitVec 6) : Statement (.jmpiB6 x d) := encodeXD_fixed_00FF _ _ _
theorem dec (x : BitVec 2) (d : BitVec 6) : Statement (.dec x d) := encodeXD_fixed_00FF _ _ _
theorem modnB8 (k : BitVec 8) : Statement (.modnB8 k) := encodeK8_fixed_00FF _ _
theorem modnP8 (k : BitVec 8) : Statement (.modnP8 k) := encodeK8_fixed_00FF _ _
theorem inc (x : BitVec 2) (d : BitVec 6) : Statement (.inc x d) := encodeXD_fixed_00FF _ _ _
theorem jpzi (k : BitVec 8) : Statement (.jpzi k) := encodeK8_fixed_00FF _ _
theorem movB6R (x : BitVec 2) (d : BitVec 6) (t : RegNum) : Statement (.movB6R x d t) := encodeXDR3_fixed_00F8 _ _ _ _
theorem mvp (x : BitVec 2) (d : BitVec 6) (q : BitVec 2) : Statement (.mvp x d q) := encodeXDR2_fixed_00FC _ _ _ _
theorem srlRC (f1 : RegNum) (c : BitVec 4) : Statement (.srlRC f1 c) := encodeRC_fixed_80FF _ _ _ _
theorem srllRC (f1 : RegNum) (c : BitVec 4) : Statement (.srllRC f1 c) := encodeRC_fixed_80FF _ _ _ _
theorem sraRC (f1 : RegNum) (c : BitVec 4) : Statement (.sraRC f1 c) := encodeRC_fixed_80FF _ _ _ _
theorem clr (x : BitVec 2) (d : BitVec 6) : Statement (.clr x d) := encodeXD_fixed_00FF _ _ _
theorem movcCn8R (k : BitVec 8) (t : RegNum) : Statement (.movcCn8R k t) := encodeK8R3_fixed_00F8 _ _ _
theorem addB6R (x : BitVec 2) (d : BitVec 6) (t : RegNum) : Statement (.addB6R x d t) := encodeXDR3_fixed_00F8 _ _ _ _
theorem sozp (x : BitVec 2) (d : BitVec 6) : Statement (.sozp x d) := encodeXD_fixed_00FF _ _ _
theorem sonp (x : BitVec 2) (d : BitVec 6) : Statement (.sonp x d) := encodeXD_fixed_00FF _ _ _
theorem soz (x : BitVec 2) (d : BitVec 6) : Statement (.soz x d) := encodeXD_fixed_00FF _ _ _
theorem son (x : BitVec 2) (d : BitVec 6) : Statement (.son x d) := encodeXD_fixed_00FF _ _ _
theorem snepRCn (f1 : RegNum) (c : BitVec 4) : Statement (.snepRCn f1 c) := encodeRC_fixed_80FF _ _ _ _
theorem snepRC (f1 : RegNum) (c : BitVec 4) : Statement (.snepRC f1 c) := encodeRC_fixed_80FF _ _ _ _
theorem snepXCn (f1 : RegNum) (c : BitVec 4) : Statement (.snepXCn f1 c) := encodeRC_fixed_80FF _ _ _ _
theorem snepXC (f1 : RegNum) (c : BitVec 4) : Statement (.snepXC f1 c) := encodeRC_fixed_80FF _ _ _ _
theorem seqpRCn (f1 : RegNum) (c : BitVec 4) : Statement (.seqpRCn f1 c) := encodeRC_fixed_80FF _ _ _ _
theorem seqpRC (f1 : RegNum) (c : BitVec 4) : Statement (.seqpRC f1 c) := encodeRC_fixed_80FF _ _ _ _
theorem seqpXCn (f1 : RegNum) (c : BitVec 4) : Statement (.seqpXCn f1 c) := encodeRC_fixed_80FF _ _ _ _
theorem seqpXC (f1 : RegNum) (c : BitVec 4) : Statement (.seqpXC f1 c) := encodeRC_fixed_80FF _ _ _ _
theorem sneRCn (f1 : RegNum) (c : BitVec 4) : Statement (.sneRCn f1 c) := encodeRC_fixed_80FF _ _ _ _
theorem sneRC (f1 : RegNum) (c : BitVec 4) : Statement (.sneRC f1 c) := encodeRC_fixed_80FF _ _ _ _
theorem sneXCn (f1 : RegNum) (c : BitVec 4) : Statement (.sneXCn f1 c) := encodeRC_fixed_80FF _ _ _ _
theorem sneXC (f1 : RegNum) (c : BitVec 4) : Statement (.sneXC f1 c) := encodeRC_fixed_80FF _ _ _ _
theorem seqRCn (f1 : RegNum) (c : BitVec 4) : Statement (.seqRCn f1 c) := encodeRC_fixed_80FF _ _ _ _
theorem seqRC (f1 : RegNum) (c : BitVec 4) : Statement (.seqRC f1 c) := encodeRC_fixed_80FF _ _ _ _
theorem seqXCn (f1 : RegNum) (c : BitVec 4) : Statement (.seqXCn f1 c) := encodeRC_fixed_80FF _ _ _ _
theorem seqXC (f1 : RegNum) (c : BitVec 4) : Statement (.seqXC f1 c) := encodeRC_fixed_80FF _ _ _ _
theorem movcC8R (k : BitVec 8) (t : RegNum) : Statement (.movcC8R k t) := encodeK8R3_fixed_00F8 _ _ _
theorem movcC4X (f1 : RegNum) (c : BitVec 4) : Statement (.movcC4X f1 c) := encodeRC_fixed_80FF _ _ _ _
theorem ress (f1 : RegNum) (c : BitVec 4) : Statement (.ress f1 c) := encodeRC_fixed_80FF _ _ _ _
theorem setsR (f1 : RegNum) (b : Bool) (f2 : RegNum) : Statement (.setsR f1 b f2) := by cases b <;> exact encodeRR_fixed_88FF _ _ _ _ _
theorem setsX (f1 : RegNum) (b : Bool) (f2 : RegNum) : Statement (.setsX f1 b f2) := by cases b <;> exact encodeRR_fixed_88FF _ _ _ _ _
theorem modB6 (x : BitVec 2) (d : BitVec 6) : Statement (.modB6 x d) := encodeXD_fixed_00FF _ _ _
theorem modnB6 (x : BitVec 2) (d : BitVec 6) : Statement (.modnB6 x d) := encodeXD_fixed_00FF _ _ _
theorem mod8 (k : BitVec 8) : Statement (.mod8 k) := encodeK8_fixed_00FF _ _
theorem jmpLn10 (k : BitVec 8) (q : BitVec 2) : Statement (.jmpLn10 k q) := encodeK8Q_fixed_00FC _ _ _
theorem jmpLn8 (k : BitVec 8) : Statement (.jmpLn8 k) := encodeK8_fixed_00FF _ _
theorem jmpS2Ln8 (k : BitVec 8) (l : Link) : Statement (.jmpS2Ln8 k l) := by cases l <;> exact encodeK8Q_fixed_00FF _ _ _
theorem movlLoad (x : BitVec 2) (d : BitVec 6) (q : BitVec 2) : Statement (.movlLoad x d q) := encodeXDR2_fixed_00FC _ _ _ _
theorem srlXC (f1 : RegNum) (c : BitVec 4) : Statement (.srlXC f1 c) := encodeRC_fixed_80FF _ _ _ _
theorem srllXC (f1 : RegNum) (c : BitVec 4) : Statement (.srllXC f1 c) := encodeRC_fixed_80FF _ _ _ _
theorem sraXC (f1 : RegNum) (c : BitVec 4) : Statement (.sraXC f1 c) := encodeRC_fixed_80FF _ _ _ _
theorem sxt (f1 : RegNum) (c : BitVec 4) : Statement (.sxt f1 c) := encodeRC_fixed_80FF _ _ _ _
theorem movB8R (k : BitVec 8) (t : RegNum) : Statement (.movB8R k t) := encodeK8R3_fixed_00F8 _ _ _
theorem movRB8 (k : BitVec 8) (t : RegNum) : Statement (.movRB8 k t) := encodeK8R3_fixed_00F8 _ _ _
theorem movbLoad (x : BitVec 2) (d : BitVec 6) (q : BitVec 2) : Statement (.movbLoad x d q) := encodeXDR2_fixed_00FC _ _ _ _
theorem movRB6 (x : BitVec 2) (d : BitVec 6) (t : RegNum) : Statement (.movRB6 x d t) := encodeXDR3_fixed_00F8 _ _ _ _
theorem clrsR (f1 : RegNum) (b : Bool) (f2 : RegNum) : Statement (.clrsR f1 b f2) := by cases b <;> exact encodeRR_fixed_88FF _ _ _ _ _
theorem clrsX (f1 : RegNum) (b : Bool) (f2 : RegNum) : Statement (.clrsX f1 b f2) := by cases b <;> exact encodeRR_fixed_88FF _ _ _ _ _
theorem addRR (a : Bool) (f1 : RegNum) (b : Bool) (f2 : RegNum) : Statement (.addRR a f1 b f2) := by cases a <;> cases b <;> exact encodeRR_fixed_88FF _ _ _ _ _
theorem subRR (a : Bool) (f1 : RegNum) (b : Bool) (f2 : RegNum) : Statement (.subRR a f1 b f2) := by cases a <;> cases b <;> exact encodeRR_fixed_88FF _ _ _ _ _
theorem andRR (a : Bool) (f1 : RegNum) (b : Bool) (f2 : RegNum) : Statement (.andRR a f1 b f2) := by cases a <;> cases b <;> exact encodeRR_fixed_88FF _ _ _ _ _
theorem iorRR (a : Bool) (f1 : RegNum) (b : Bool) (f2 : RegNum) : Statement (.iorRR a f1 b f2) := by cases a <;> cases b <;> exact encodeRR_fixed_88FF _ _ _ _ _
theorem incdRR (f1 f2 : RegNum) : Statement (.incdRR f1 f2) := encodeRR_fixed_88FF _ _ _ _ _
theorem decdRR (f1 f2 : RegNum) : Statement (.decdRR f1 f2) := encodeRR_fixed_88FF _ _ _ _ _
theorem incdXM (f1 f2 : RegNum) : Statement (.incdXM f1 f2) := encodeRR_fixed_88FF _ _ _ _ _
theorem decdXM (f1 f2 : RegNum) : Statement (.decdXM f1 f2) := encodeRR_fixed_88FF _ _ _ _ _
theorem movbStore (x : BitVec 2) (d : BitVec 6) (q : BitVec 2) : Statement (.movbStore x d q) := encodeXDR2_fixed_00FC _ _ _ _
theorem modB8 (k : BitVec 8) : Statement (.modB8 k) := encodeK8_fixed_00FF _ _
theorem modP8 (k : BitVec 8) : Statement (.modP8 k) := encodeK8_fixed_00FF _ _
theorem sioR (f1 f2 : RegNum) : Statement (.sioR f1 f2) := encodeRR_fixed_88FF _ _ _ _ _
theorem cioR (f1 f2 : RegNum) : Statement (.cioR f1 f2) := encodeRR_fixed_88FF _ _ _ _ _
theorem rioR (f1 f2 : RegNum) : Statement (.rioR f1 f2) := encodeRR_fixed_88FF _ _ _ _ _
theorem wioR (f1 f2 : RegNum) : Statement (.wioR f1 f2) := encodeRR_fixed_88FF _ _ _ _ _
theorem movP8R (k : BitVec 8) (t : RegNum) : Statement (.movP8R k t) := encodeK8R3_fixed_00F8 _ _ _
theorem sllRC (f1 : RegNum) (c : BitVec 4) : Statement (.sllRC f1 c) := encodeRC_fixed_80FF _ _ _ _
theorem slllRC (f1 : RegNum) (c : BitVec 4) : Statement (.slllRC f1 c) := encodeRC_fixed_80FF _ _ _ _
theorem slcRC (f1 : RegNum) (c : BitVec 4) : Statement (.slcRC f1 c) := encodeRC_fixed_80FF _ _ _ _
theorem setsRC (f1 : RegNum) (c : BitVec 4) : Statement (.setsRC f1 c) := encodeRC_fixed_80FF _ _ _ _
theorem modcCn8 (k : BitVec 8) : Statement (.modcCn8 k) := encodeK8_fixed_00FF _ _
theorem mod4Cn8 (k : BitVec 8) : Statement (.mod4Cn8 k) := encodeK8_fixed_00FF _ _
theorem mon (k : BitVec 8) : Statement (.mon k) := encodeK8_fixed_00FF _ _
theorem rpz (x : BitVec 2) (d : BitVec 6) : Statement (.rpz x d) := encodeXD_fixed_00FF _ _ _
theorem addcCn8R (k : BitVec 8) (t : RegNum) : Statement (.addcCn8R k t) := encodeK8R3_fixed_00F8 _ _ _
theorem sbnpRC (f1 : RegNum) (c : BitVec 4) : Statement (.sbnpRC f1 c) := encodeRC_fixed_80FF _ _ _ _
theorem jonRLn4 (f1 : RegNum) (c : BitVec 4) : Statement (.jonRLn4 f1 c) := encodeRC_fixed_80FF _ _ _ _
theorem sbnpXC (f1 : RegNum) (c : BitVec 4) : Statement (.sbnpXC f1 c) := encodeRC_fixed_80FF _ _ _ _
theorem jonXLn4 (f1 : RegNum) (c : BitVec 4) : Statement (.jonXLn4 f1 c) := encodeRC_fixed_80FF _ _ _ _
theorem sbzpRC (f1 : RegNum) (c : BitVec 4) : Statement (.sbzpRC f1 c) := encodeRC_fixed_80FF _ _ _ _
theorem jozRLn4 (f1 : RegNum) (c : BitVec 4) : Statement (.jozRLn4 f1 c) := encodeRC_fixed_80FF _ _ _ _
theorem sbzpXC (f1 : RegNum) (c : BitVec 4) : Statement (.sbzpXC f1 c) := encodeRC_fixed_80FF _ _ _ _
theorem jozXLn4 (f1 : RegNum) (c : BitVec 4) : Statement (.jozXLn4 f1 c) := encodeRC_fixed_80FF _ _ _ _
theorem sbnRC (f1 : RegNum) (c : BitVec 4) : Statement (.sbnRC f1 c) := encodeRC_fixed_80FF _ _ _ _
theorem jonRL4 (f1 : RegNum) (c : BitVec 4) : Statement (.jonRL4 f1 c) := encodeRC_fixed_80FF _ _ _ _
theorem sbnXC (f1 : RegNum) (c : BitVec 4) : Statement (.sbnXC f1 c) := encodeRC_fixed_80FF _ _ _ _
theorem jonXL4 (f1 : RegNum) (c : BitVec 4) : Statement (.jonXL4 f1 c) := encodeRC_fixed_80FF _ _ _ _
theorem sbzRC (f1 : RegNum) (c : BitVec 4) : Statement (.sbzRC f1 c) := encodeRC_fixed_80FF _ _ _ _
theorem jozRL4 (f1 : RegNum) (c : BitVec 4) : Statement (.jozRL4 f1 c) := encodeRC_fixed_80FF _ _ _ _
theorem sbzXC (f1 : RegNum) (c : BitVec 4) : Statement (.sbzXC f1 c) := encodeRC_fixed_80FF _ _ _ _
theorem jozXL4 (f1 : RegNum) (c : BitVec 4) : Statement (.jozXL4 f1 c) := encodeRC_fixed_80FF _ _ _ _
theorem sltpRR (a : Bool) (f1 : RegNum) (b : Bool) (f2 : RegNum) : Statement (.sltpRR a f1 b f2) := by cases a <;> cases b <;> exact encodeRR_fixed_88FF _ _ _ _ _
theorem slopRR (a : Bool) (f1 : RegNum) (b : Bool) (f2 : RegNum) : Statement (.slopRR a f1 b f2) := by cases a <;> cases b <;> exact encodeRR_fixed_88FF _ _ _ _ _
theorem sgepRR (a : Bool) (f1 : RegNum) (b : Bool) (f2 : RegNum) : Statement (.sgepRR a f1 b f2) := by cases a <;> cases b <;> exact encodeRR_fixed_88FF _ _ _ _ _
theorem shspRR (a : Bool) (f1 : RegNum) (b : Bool) (f2 : RegNum) : Statement (.shspRR a f1 b f2) := by cases a <;> cases b <;> exact encodeRR_fixed_88FF _ _ _ _ _
theorem snepRR (a : Bool) (f1 : RegNum) (b : Bool) (f2 : RegNum) : Statement (.snepRR a f1 b f2) := by cases a <;> cases b <;> exact encodeRR_fixed_88FF _ _ _ _ _
theorem stcRM (f1 f2 : RegNum) : Statement (.stcRM f1 f2) := encodeRR_fixed_88FF _ _ _ _ _
theorem unsRM (f1 f2 : RegNum) : Statement (.unsRM f1 f2) := encodeRR_fixed_88FF _ _ _ _ _
theorem seqpRR (a : Bool) (f1 : RegNum) (b : Bool) (f2 : RegNum) : Statement (.seqpRR a f1 b f2) := by cases a <;> cases b <;> exact encodeRR_fixed_88FF _ _ _ _ _
theorem movR (a : Bool) (f1 f2 : RegNum) : Statement (.movR a f1 f2) := by cases a <;> exact encodeRR_fixed_88FF _ _ _ _ _
theorem jmpP6 (x : BitVec 2) (d : BitVec 6) : Statement (.jmpP6 x d) := encodeXD_fixed_00FF _ _ _
theorem sob (k : BitVec 8) (t : RegNum) : Statement (.sob k t) := encodeK8R3_fixed_00F8 _ _ _
theorem addcC8R (k : BitVec 8) (t : RegNum) : Statement (.addcC8R k t) := encodeK8R3_fixed_00F8 _ _ _
theorem movlStore (x : BitVec 2) (d : BitVec 6) (q : BitVec 2) : Statement (.movlStore x d q) := encodeXDR2_fixed_00FC _ _ _ _
theorem adduRR (a : Bool) (f1 : RegNum) (b : Bool) (f2 : RegNum) : Statement (.adduRR a f1 b f2) := by cases a <;> cases b <;> exact encodeRR_fixed_88FF _ _ _ _ _
theorem subuRR (a : Bool) (f1 : RegNum) (b : Bool) (f2 : RegNum) : Statement (.subuRR a f1 b f2) := by cases a <;> cases b <;> exact encodeRR_fixed_88FF _ _ _ _ _
theorem sioX (f1 f2 : RegNum) : Statement (.sioX f1 f2) := encodeRR_fixed_88FF _ _ _ _ _
theorem cioX (f1 f2 : RegNum) : Statement (.cioX f1 f2) := encodeRR_fixed_88FF _ _ _ _ _
theorem rioX (f1 f2 : RegNum) : Statement (.rioX f1 f2) := encodeRR_fixed_88FF _ _ _ _ _
theorem wioX (f1 f2 : RegNum) : Statement (.wioX f1 f2) := encodeRR_fixed_88FF _ _ _ _ _
theorem jmpL10 (k : BitVec 8) (q : BitVec 2) : Statement (.jmpL10 k q) := encodeK8Q_fixed_00FC _ _ _
theorem jmpL8 (k : BitVec 8) : Statement (.jmpL8 k) := encodeK8_fixed_00FF _ _
theorem jmpS2L8 (k : BitVec 8) (l : Link) : Statement (.jmpS2L8 k l) := by cases l <;> exact encodeK8Q_fixed_00FF _ _ _
theorem sllXC (f1 : RegNum) (c : BitVec 4) : Statement (.sllXC f1 c) := encodeRC_fixed_80FF _ _ _ _
theorem slllXC (f1 : RegNum) (c : BitVec 4) : Statement (.slllXC f1 c) := encodeRC_fixed_80FF _ _ _ _
theorem slcXC (f1 : RegNum) (c : BitVec 4) : Statement (.slcXC f1 c) := encodeRC_fixed_80FF _ _ _ _
theorem setsXC (f1 : RegNum) (c : BitVec 4) : Statement (.setsXC f1 c) := encodeRC_fixed_80FF _ _ _ _
theorem rtmi (d : BitVec 6) : Statement (.rtmi d) := encodeXD_fixed_C0FF _ _ _
theorem modcC8 (k : BitVec 8) : Statement (.modcC8 k) := encodeK8_fixed_00FF _ _
theorem mod4C8 (k : BitVec 8) : Statement (.mod4C8 k) := encodeK8_fixed_00FF _ _
theorem rtm (x : BitVec 2) (d : BitVec 6) : Statement (.rtm x d) := encodeXD_fixed_00FF _ _ _
theorem jmpiB8 (k : BitVec 8) : Statement (.jmpiB8 k) := encodeK8_fixed_00FF _ _
theorem xor (a : Bool) (f1 f2 : RegNum) : Statement (.xor a f1 f2) := by cases a <;> exact encodeRR_fixed_88FF _ _ _ _ _
theorem putX (f1 f2 : RegNum) : Statement (.putX f1 f2) := encodeRR_fixed_88FF _ _ _ _ _
theorem movm (f1 f2 : RegNum) : Statement (.movm f1 f2) := encodeRR_fixed_88FF _ _ _ _ _
theorem putR (f1 f2 : RegNum) : Statement (.putR f1 f2) := encodeRR_fixed_88FF _ _ _ _ _
theorem mul (a : Bool) (f1 f2 : RegNum) : Statement (.mul a f1 f2) := by cases a <;> exact encodeRR_fixed_88FF _ _ _ _ _
theorem div (a : Bool) (f1 f2 : RegNum) : Statement (.div a f1 f2) := by cases a <;> exact encodeRR_fixed_88FF _ _ _ _ _
theorem xtrRC (f1 : RegNum) (c : BitVec 4) : Statement (.xtrRC f1 c) := encodeRC_fixed_80FF _ _ _ _
theorem xtrXC (f1 : RegNum) (c : BitVec 4) : Statement (.xtrXC f1 c) := encodeRC_fixed_80FF _ _ _ _
theorem xchR (f1 : RegNum) (b : Bool) (f2 : RegNum) : Statement (.xchR f1 b f2) := by cases b <;> exact encodeRR_fixed_88FF _ _ _ _ _
theorem xchX (f1 : RegNum) (b : Bool) (f2 : RegNum) : Statement (.xchX f1 b f2) := by cases b <;> exact encodeRR_fixed_88FF _ _ _ _ _
theorem sltRR (a : Bool) (f1 : RegNum) (b : Bool) (f2 : RegNum) : Statement (.sltRR a f1 b f2) := by cases a <;> cases b <;> exact encodeRR_fixed_88FF _ _ _ _ _
theorem sloRR (a : Bool) (f1 : RegNum) (b : Bool) (f2 : RegNum) : Statement (.sloRR a f1 b f2) := by cases a <;> cases b <;> exact encodeRR_fixed_88FF _ _ _ _ _
theorem sgeRR (a : Bool) (f1 : RegNum) (b : Bool) (f2 : RegNum) : Statement (.sgeRR a f1 b f2) := by cases a <;> cases b <;> exact encodeRR_fixed_88FF _ _ _ _ _
theorem shsRR (a : Bool) (f1 : RegNum) (b : Bool) (f2 : RegNum) : Statement (.shsRR a f1 b f2) := by cases a <;> cases b <;> exact encodeRR_fixed_88FF _ _ _ _ _
theorem sneRR (a : Bool) (f1 : RegNum) (b : Bool) (f2 : RegNum) : Statement (.sneRR a f1 b f2) := by cases a <;> cases b <;> exact encodeRR_fixed_88FF _ _ _ _ _
theorem stcXM (f1 f2 : RegNum) : Statement (.stcXM f1 f2) := encodeRR_fixed_88FF _ _ _ _ _
theorem unsXM (f1 f2 : RegNum) : Statement (.unsXM f1 f2) := encodeRR_fixed_88FF _ _ _ _ _
theorem seqRR (a : Bool) (f1 : RegNum) (b : Bool) (f2 : RegNum) : Statement (.seqRR a f1 b f2) := by cases a <;> cases b <;> exact encodeRR_fixed_88FF _ _ _ _ _
theorem movX (a : Bool) (f1 f2 : RegNum) : Statement (.movX a f1 f2) := by cases a <;> exact encodeRR_fixed_88FF _ _ _ _ _
theorem jmpiP8 (k : BitVec 8) : Statement (.jmpiP8 k) := encodeK8_fixed_00FF _ _
theorem jmpiS2P8 (k : BitVec 8) (l : Link) : Statement (.jmpiS2P8 k l) := by cases l <;> exact encodeK8Q_fixed_00FF _ _ _
theorem ldpR (f2 : RegNum) : Statement (.ldpR f2) := encodeSR_fixed_F8FF _ _ _ _
theorem ldpM (f2 : RegNum) : Statement (.ldpM f2) := encodeSR_fixed_F8FF _ _ _ _
theorem sssR (f2 : RegNum) : Statement (.sssR f2) := encodeSR_fixed_F8FF _ _ _ _
theorem sssM (f2 : RegNum) : Statement (.sssM f2) := encodeSR_fixed_F8FF _ _ _ _
theorem dicpR (f2 : RegNum) : Statement (.dicpR f2) := encodeSR_fixed_F8FF _ _ _ _
theorem dicpM (f2 : RegNum) : Statement (.dicpM f2) := encodeSR_fixed_F8FF _ _ _ _
theorem ddcpR (f2 : RegNum) : Statement (.ddcpR f2) := encodeSR_fixed_F8FF _ _ _ _
theorem ddcpM (f2 : RegNum) : Statement (.ddcpM f2) := encodeSR_fixed_F8FF _ _ _ _
theorem ldnR (f2 : RegNum) : Statement (.ldnR f2) := encodeSR_fixed_F8FF _ _ _ _
theorem ldnM (f2 : RegNum) : Statement (.ldnM f2) := encodeSR_fixed_F8FF _ _ _ _
theorem ldtR (f2 : RegNum) : Statement (.ldtR f2) := encodeSR_fixed_F8FF _ _ _ _
theorem ldtM (f2 : RegNum) : Statement (.ldtM f2) := encodeSR_fixed_F8FF _ _ _ _
theorem swpR (f2 : RegNum) : Statement (.swpR f2) := encodeSR_fixed_F8FF _ _ _ _
theorem swpM (f2 : RegNum) : Statement (.swpM f2) := encodeSR_fixed_F8FF _ _ _ _
theorem xcu (f2 : RegNum) : Statement (.xcu f2) := encodeSR_fixed_F8FF _ _ _ _
theorem xcui (f2 : RegNum) : Statement (.xcui f2) := encodeSR_fixed_F8FF _ _ _ _
theorem invR (f2 : RegNum) : Statement (.invR f2) := encodeSR_fixed_F8FF _ _ _ _
theorem invM (f2 : RegNum) : Statement (.invM f2) := encodeSR_fixed_F8FF _ _ _ _
theorem svtR (f2 : RegNum) : Statement (.svtR f2) := encodeSR_fixed_F8FF _ _ _ _
theorem svtM (f2 : RegNum) : Statement (.svtM f2) := encodeSR_fixed_F8FF _ _ _ _
theorem svsR (f2 : RegNum) : Statement (.svsR f2) := encodeSR_fixed_F8FF _ _ _ _
theorem svsM (f2 : RegNum) : Statement (.svsM f2) := encodeSR_fixed_F8FF _ _ _ _
theorem ldsR (f2 : RegNum) : Statement (.ldsR f2) := encodeSR_fixed_F8FF _ _ _ _
theorem ldsM (f2 : RegNum) : Statement (.ldsM f2) := encodeSR_fixed_F8FF _ _ _ _
theorem negR (f2 : RegNum) : Statement (.negR f2) := encodeSR_fixed_F8FF _ _ _ _
theorem negM (f2 : RegNum) : Statement (.negM f2) := encodeSR_fixed_F8FF _ _ _ _
theorem slsR (f2 : RegNum) : Statement (.slsR f2) := encodeSR_fixed_F8FF _ _ _ _
theorem slsM (f2 : RegNum) : Statement (.slsM f2) := encodeSR_fixed_F8FF _ _ _ _
theorem modnR (f2 : RegNum) : Statement (.modnR f2) := encodeSR_fixed_F8FF _ _ _ _
theorem modnX (f2 : RegNum) : Statement (.modnX f2) := encodeSR_fixed_F8FF _ _ _ _
theorem svlR (f2 : RegNum) : Statement (.svlR f2) := encodeSR_fixed_F8FF _ _ _ _
theorem svlM (f2 : RegNum) : Statement (.svlM f2) := encodeSR_fixed_F8FF _ _ _ _
theorem modR (f2 : RegNum) : Statement (.modR f2) := encodeSR_fixed_F8FF _ _ _ _
theorem modX (f2 : RegNum) : Statement (.modX f2) := encodeSR_fixed_F8FF _ _ _ _
theorem ldlR (f2 : RegNum) : Statement (.ldlR f2) := encodeSR_fixed_F8FF _ _ _ _
theorem ldlM (f2 : RegNum) : Statement (.ldlM f2) := encodeSR_fixed_F8FF _ _ _ _
theorem trp (c : BitVec 4) : Statement (.trp c) := encodeSC_fixed_F0FF _ _ _
theorem svp (c : BitVec 4) : Statement (.svp c) := encodeSC_fixed_F0FF _ _ _
theorem cpuR (f2 : RegNum) : Statement (.cpuR f2) := encodeSR_fixed_F8FF _ _ _ _
theorem cpuM (f2 : RegNum) : Statement (.cpuM f2) := encodeSR_fixed_F8FF _ _ _ _
theorem jvnLn4 (c : BitVec 4) : Statement (.jvnLn4 c) := encodeSC_fixed_F0FF _ _ _
theorem unsC4 (c : BitVec 4) : Statement (.unsC4 c) := encodeSC_fixed_F0FF _ _ _
theorem ldm (c : BitVec 4) : Statement (.ldm c) := encodeSC_fixed_F0FF _ _ _
theorem stcC4 (c : BitVec 4) : Statement (.stcC4 c) := encodeSC_fixed_F0FF _ _ _
theorem jvnL4 (c : BitVec 4) : Statement (.jvnL4 c) := encodeSC_fixed_F0FF _ _ _
theorem aamow (f1 f2 t : RegNum) : Statement (.aamow f1 f2 t) := encodeBlock_fixed_88F8 _ _ _ _ _ _
theorem lamow (f1 f2 t : RegNum) : Statement (.lamow f1 f2 t) := encodeBlock_fixed_88F8 _ _ _ _ _ _
theorem almow (f1 f2 t : RegNum) : Statement (.almow f1 f2 t) := encodeBlock_fixed_88F8 _ _ _ _ _ _
theorem aamob (f1 f2 t : RegNum) : Statement (.aamob f1 f2 t) := encodeBlock_fixed_88F8 _ _ _ _ _ _
theorem lamob (f1 f2 t : RegNum) : Statement (.lamob f1 f2 t) := encodeBlock_fixed_88F8 _ _ _ _ _ _
theorem almob (f1 f2 t : RegNum) : Statement (.almob f1 f2 t) := encodeBlock_fixed_88F8 _ _ _ _ _ _
theorem amowStore (f1 f2 : RegNum) : Statement (.amowStore f1 f2) := encodeRR_fixed_88FF _ _ _ _ _
theorem amowLoad (f1 f2 : RegNum) : Statement (.amowLoad f1 f2) := encodeRR_fixed_88FF _ _ _ _ _
theorem amobStore (f1 f2 : RegNum) : Statement (.amobStore f1 f2) := encodeRR_fixed_88FF _ _ _ _ _
theorem amobLoad (f1 f2 : RegNum) : Statement (.amobLoad f1 f2) := encodeRR_fixed_88FF _ _ _ _ _
theorem aress (f1 : RegNum) (c : BitVec 4) : Statement (.aress f1 c) := encodeRC_fixed_80FF _ _ _ _
theorem arels (f1 : RegNum) (c : BitVec 4) : Statement (.arels f1 c) := encodeRC_fixed_80FF _ _ _ _
theorem drdR (f1 f2 : RegNum) : Statement (.drdR f1 f2) := encodeRR_fixed_88FF _ _ _ _ _
theorem drdX (f1 f2 : RegNum) : Statement (.drdX f1 f2) := encodeRR_fixed_88FF _ _ _ _ _
theorem dwrR (f1 f2 : RegNum) : Statement (.dwrR f1 f2) := encodeRR_fixed_88FF _ _ _ _ _
theorem dwrX (f1 f2 : RegNum) : Statement (.dwrX f1 f2) := encodeRR_fixed_88FF _ _ _ _ _
theorem mrdR (f1 f2 : RegNum) : Statement (.mrdR f1 f2) := encodeRR_fixed_88FF _ _ _ _ _
theorem mrdX (f1 f2 : RegNum) : Statement (.mrdX f1 f2) := encodeRR_fixed_88FF _ _ _ _ _
theorem mwrR (f1 f2 : RegNum) : Statement (.mwrR f1 f2) := encodeRR_fixed_88FF _ _ _ _ _
theorem mwrX (f1 f2 : RegNum) : Statement (.mwrX f1 f2) := encodeRR_fixed_88FF _ _ _ _ _
theorem rspR (f1 : RegNum) : Statement (.rspR f1) := encodeRR_fixed_8FFF _ _ _ _ _
theorem rspX (f1 : RegNum) : Statement (.rspX f1) := encodeRR_fixed_8FFF _ _ _ _ _
theorem wspR (f1 : RegNum) : Statement (.wspR f1) := encodeRR_fixed_8FFF _ _ _ _ _
theorem wspX (f1 : RegNum) : Statement (.wspX f1) := encodeRR_fixed_8FFF _ _ _ _ _
theorem arsc (f1 f2 : RegNum) : Statement (.arsc f1 f2) := encodeRR_fixed_88FF _ _ _ _ _
theorem ared (f1 f2 : RegNum) : Statement (.ared f1 f2) := encodeRR_fixed_88FF _ _ _ _ _
theorem alt : Statement (.alt) := rfl
theorem lbr : Statement (.lbr) := rfl
theorem nmi : Statement (.nmi) := rfl
theorem cae : Statement (.cae) := rfl
theorem cad : Statement (.cad) := rfl
theorem tst : Statement (.tst) := rfl

end Sys2Proof.Laws.EncodedRow
end

