-- ==== Sys2Proof/Laws/Special.lean ====
section
/-! SUPPORT. The shared operations of the special instructions and of the multiple moves: when each answers and with what, said once. -/

namespace Sys2Proof.Machine

/-! ### Status, timer, level, bound -/

/-- SVS, SSS, SVT, SVL (R313, R316, R320). -/
theorem saveValue_ok (v : Word) (o : Operand) (s t : State) :
    saveValue v o s = .ok t ↔ s.placeReaches (o.loc s) ∧ t = (s.putAt (o.loc s) v).finish := by
  simp only [saveValue, bind_ok, write_ok, pure_ok, and_assoc, exists_and_left, exists_eq_left]

/-- LDS and SLS (R311, R312). -/
theorem loadStatus_ok (o : Operand) (s t : State) :
    loadStatus o s = .ok t ↔ s.placeReaches (o.loc s) ∧ t = (s.loadPsw (s.valueAt (o.loc s))).finish := by
  simp only [loadStatus, bind_ok, read_ok, pure_ok, and_assoc, exists_and_left, exists_eq_left]

/-- LDT (R315). -/
theorem loadTimer_ok (o : Operand) (s t : State) :
    loadTimer o s = .ok t ↔ s.placeReaches (o.loc s) ∧ t = ({ s with timer := s.valueAt (o.loc s) } : State).finish := by
  simp only [loadTimer, bind_ok, read_ok, pure_ok, and_assoc, exists_and_left, exists_eq_left]

/-- LDL (R321). -/
theorem loadLevel_ok (o : Operand) (s t : State) :
    loadLevel o s = .ok t ↔ s.placeReaches (o.loc s) ∧ t = ({ s with level := s.valueAt (o.loc s) } : State).finish := by
  simp only [loadLevel, bind_ok, read_ok, pure_ok, and_assoc, exists_and_left, exists_eq_left]

/-- LBR (R319). -/
theorem loadBound_ok (s t : State) :
    loadBound s = .ok t ↔ s.reaches (.abs s.dataPage) (s.base - 1) ∧
      t = ({ s with bound := s.word s.dataPage (s.base - 1) } : State).finish := by
  simp only [loadBound, bind_ok, loadData_ok, pure_ok, and_assoc, exists_and_left, exists_eq_left]

/-! ### Process save and load -/

/-- The memory that a process save leaves: words 0 to 13, word -2 and, where the level counter is 0, word -1. -/
def State.processSaved (s : State) (p : Byte) (a cont : Word) : State :=
  let s2 := (storedWords s p a (s.descriptor cont)).putWord p (a - 2) s.level
  if counterZero s.level then s2.putWord p (a - 1) s.bound else s2

/-- The transfers of a process save go through. -/
def State.saveReaches (s : State) (p : Byte) (a : Word) : Prop :=
  wordsReach s.plat p a 14 ∧ s.reaches (.abs p) (a - 2) ∧ (counterZero s.level = true → s.reaches (.abs p) (a - 1))

theorem saveProcess_ok (s : State) (p : Byte) (a cont : Word) (t : State) :
    s.saveProcess p a cont = .ok t ↔ s.saveReaches p a ∧ t = s.processSaved p a cont := by
  simp only [State.saveProcess, bind_ok, storeWords_ok, store_ok, State.saveReaches, State.processSaved]
  cases h : counterZero s.level
  · simp only [Bool.false_eq_true, if_false, pure_ok, false_implies, and_true]
    constructor
    · rintro ⟨_, ⟨h1, rfl⟩, _, ⟨h2, rfl⟩, rfl⟩
      simp only [State.reaches, storedWords_plat] at h2; exact ⟨⟨h1, h2⟩, rfl⟩
    · rintro ⟨⟨h1, h2⟩, rfl⟩
      exact ⟨_, ⟨h1, rfl⟩, _, ⟨by simpa only [State.reaches, storedWords_plat] using h2, rfl⟩, rfl⟩
  · simp only [if_true, store_ok, true_implies]
    constructor
    · rintro ⟨_, ⟨h1, rfl⟩, _, ⟨h2, rfl⟩, h3, rfl⟩
      simp only [State.reaches, State.putWord_plat, storedWords_plat] at h3
      simp only [State.reaches, storedWords_plat] at h2; exact ⟨⟨h1, h2, h3⟩, rfl⟩
    · rintro ⟨⟨h1, h2, h3⟩, rfl⟩
      exact ⟨_, ⟨h1, rfl⟩, _, ⟨by simpa only [State.reaches, storedWords_plat] using h2, rfl⟩,
        by simpa only [State.reaches, State.putWord_plat, storedWords_plat] using h3, rfl⟩

/-- Nothing but memory is changed by a process save. -/
theorem processSaved_rest (s : State) (p : Byte) (a cont : Word) : { s.processSaved p a cont with mem := s.mem } = s := by
  have h := storedWords_rest (s.descriptor cont) s p a
  unfold State.processSaved
  generalize storedWords s p a (s.descriptor cont) = u at h
  split <;> exact h

/-- SVP (R318). -/
theorem saveOwnProcess_ok (c : BitVec 4) (s t : State) :
    saveOwnProcess c s = .ok t ↔ s.saveReaches s.dataPage s.base ∧
      t = ((s.processSaved s.dataPage s.base (s.pc + 1 + zext c)).setMask 3).finish := by
  simp only [saveOwnProcess, bind_ok, saveProcess_ok, pure_ok, and_assoc, exists_and_left, exists_eq_left]

/-- The pair of an operand and its successor (R86, R322). -/
theorem descriptorAt_ok (o : Operand) (s : State) (d : Word) (p : Byte) :
    descriptorAt o s = .ok (d, p) ↔ s.placeReaches (o.loc s) ∧ s.placeReaches (o.loc s).succ ∧
      d = s.valueAt (o.loc s) ∧ p = lowByte (s.valueAt (o.loc s).succ) := by
  simp only [descriptorAt, bind_ok, read_ok, pure_ok, Prod.mk.injEq]
  constructor
  · rintro ⟨_, ⟨h1, rfl⟩, _, ⟨h2, rfl⟩, h3, h4⟩; exact ⟨h1, h2, h3, h4⟩
  · rintro ⟨h1, h2, h3, h4⟩; exact ⟨_, ⟨h1, rfl⟩, _, ⟨h2, rfl⟩, h3, h4⟩

/-- The state that the load of a process descriptor leaves (R322). -/
def State.processLoaded (s : State) (p : Byte) (d : Word) : State :=
  let s1 := { s with umap := insertBits s.umap 0 p }.bracketCache false
  let s2 := { s1 with level := s.word p (d - 2), bound := if counterZero (s.word p (d - 2)) then s.word p (d - 1) else 0xFFFF }
  { loadedRegisters s2 p d (regsUpTo 7) with
    base := s.word p (d + 8), umap := s.word p (d + 9), prog := s.word p (d + 10), pc := s.word p (d + 11),
    timer := s.word p (d + 12), psw := s.word p (d + 13) }.bracketCache true

/-- The transfers of the load go through. -/
def State.processReaches (s : State) (p : Byte) (d : Word) : Prop :=
  s.reaches (.abs p) (d - 2) ∧ (counterZero (s.word p (d - 2)) = true → s.reaches (.abs p) (d - 1)) ∧ wordsReach s.plat p d 8 ∧
    s.reaches (.abs p) (d + 8) ∧ s.reaches (.abs p) (d + 9) ∧ s.reaches (.abs p) (d + 10) ∧ s.reaches (.abs p) (d + 11) ∧
    s.reaches (.abs p) (d + 12) ∧ s.reaches (.abs p) (d + 13)

theorem loadBoundFrom_ok (s : State) (p : Byte) (d : Word) (t : State) :
    s.loadBoundFrom p d = .ok t ↔ (counterZero s.level = true → s.reaches (.abs p) (d - 1)) ∧
      t = { s with bound := if counterZero s.level then s.word p (d - 1) else 0xFFFF } := by
  unfold State.loadBoundFrom
  cases h : counterZero s.level
  · simp [pure_ok]
  · simp only [if_true, bind_ok, load_ok, pure_ok, and_assoc, exists_and_left, exists_eq_left, true_implies]

/-- The load of a process descriptor (R322). -/
theorem loadProcess_ok (s : State) (p : Byte) (d : Word) (t : State) :
    s.loadProcess p d = .ok t ↔ s.processReaches p d ∧ t = s.processLoaded p d := by
  simp only [State.loadProcess, State.processLoaded, State.processReaches, bind_ok, load_ok, loadBoundFrom_ok, loadRegisters_ok,
    pure_ok, State.reaches, State.word, loadedRegisters_mem, loadedRegisters_plat, State.bracketCache_mem,
    State.bracketCache_plat, and_assoc, exists_and_left, exists_eq_left]
  rfl

/-- LDN (R322). -/
theorem loadUnlinked_ok (o : Operand) (s t : State) :
    loadUnlinked o s = .ok t ↔ s.placeReaches (o.loc s) ∧ s.placeReaches (o.loc s).succ ∧
      s.processReaches (lowByte (s.valueAt (o.loc s).succ)) (s.valueAt (o.loc s)) ∧
      t = (s.processLoaded (lowByte (s.valueAt (o.loc s).succ)) (s.valueAt (o.loc s))).clearModification := by
  simp only [loadUnlinked, bind_ok, Prod.exists, descriptorAt_ok, loadProcess_ok, pure_ok]
  constructor
  · rintro ⟨_, _, ⟨h1, h2, rfl, rfl⟩, _, ⟨h3, rfl⟩, rfl⟩; exact ⟨h1, h2, h3, rfl⟩
  · rintro ⟨h1, h2, h3, rfl⟩; exact ⟨_, _, ⟨h1, h2, rfl, rfl⟩, _, ⟨h3, rfl⟩, rfl⟩

/-- LDP: the load, then the link stored in the new process's words 14 and 15 (R323). -/
theorem loadLinked_ok (o : Operand) (s t : State) :
    loadLinked o s = .ok t ↔
      let s1 := s.processLoaded (lowByte (s.valueAt (o.loc s).succ)) (s.valueAt (o.loc s))
      s.placeReaches (o.loc s) ∧ s.placeReaches (o.loc s).succ ∧
      s.processReaches (lowByte (s.valueAt (o.loc s).succ)) (s.valueAt (o.loc s)) ∧
      s1.reaches (.abs s1.dataPage) (s1.base + 14) ∧ s1.reaches (.abs s1.dataPage) (s1.base + 15) ∧
      t = ((s1.putWord s1.dataPage (s1.base + 14) s.base).putWord s1.dataPage (s1.base + 15) s.umap).clearModification := by
  simp only [loadLinked, bind_ok, Prod.exists, descriptorAt_ok, loadProcess_ok, storeData_ok, pure_ok]
  constructor
  · rintro ⟨_, _, ⟨h1, h2, rfl, rfl⟩, _, ⟨h3, rfl⟩, _, ⟨h4, rfl⟩, _, ⟨h5, rfl⟩, rfl⟩; exact ⟨h1, h2, h3, h4, h5, rfl⟩
  · rintro ⟨h1, h2, h3, h4, h5, rfl⟩
    exact ⟨_, _, ⟨h1, h2, rfl, rfl⟩, _, ⟨h3, rfl⟩, _, ⟨h4, rfl⟩, _, ⟨h5, rfl⟩, rfl⟩

/-! ### Execute -/

/-- XCU (R324). -/
theorem executeAt_ok (a : Word) (s t : State) :
    executeAt a s = .ok t ↔ s.reaches (.abs s.dataPage) a ∧ t = s.execute (s.word s.dataPage a) := by
  simp only [executeAt, bind_ok, loadData_ok, pure_ok, and_assoc, exists_and_left, exists_eq_left]

/-- XCUI (R326). -/
theorem executeIndirect_ok (a : Word) (s t : State) :
    executeIndirect a s = .ok t ↔ s.reaches (.abs s.dataPage) a ∧
      s.reaches (.abs s.dataPage) (s.base + s.word s.dataPage a) ∧
      t = s.execute (s.word s.dataPage (s.base + s.word s.dataPage a)) := by
  simp only [executeIndirect, bind_ok, loadData_ok, pure_ok, and_assoc, exists_and_left, exists_eq_left]

/-! ### Monitor call and return -/

/-- MON (R325). -/
theorem monitorCall_ok (k : BitVec 8) (s t : State) :
    monitorCall k s = .ok t ↔
      if zext k < 64 then t = s.enterMonitor.jumpTo 63
      else s.reaches (.abs s.enterMonitor.progCur) (zext k) ∧
        t = s.enterMonitor.jumpTo (s.word s.enterMonitor.progCur (zext k)) := by
  unfold monitorCall
  by_cases h : zext k < 64
  · simp only [h, if_true, bind_ok, pure_ok, exists_eq_left]
  · simp only [h, if_false, bind_ok, loadProg_ok, pure_ok, and_assoc, exists_and_left, exists_eq_left]
    rfl

/-- The state after a return from a monitor call, before the jump (R327). -/
def State.monitorLeft (s : State) : State :=
  let s1 := { s with level := s.level - 1 }
  let s2 := if s.level - 1 = 0 then s1.setPg true else s1
  if counterZero (s.level - 1) then { s2 with bound := s.word s.dataPage (s.base - 1) } else s2

theorem leaveMonitor_ok (s t : State) :
    s.leaveMonitor = .ok t ↔ (counterZero (s.level - 1) = true → s.reaches (.abs s.dataPage) (s.base - 1)) ∧
      t = s.monitorLeft := by
  unfold State.leaveMonitor State.monitorLeft
  by_cases h0 : s.level - 1 = 0
  · have hc : counterZero (s.level - 1) = true := by rw [h0]; decide
    simp only [h0, if_true, State.setPg_level]
    rw [h0] at hc
    simp only [hc, if_true, bind_ok, loadData_ok, pure_ok, and_assoc, exists_and_left, exists_eq_left, true_implies]
    rfl
  · simp only [h0, if_false]
    cases hc : counterZero (s.level - 1)
    · simp [pure_ok]
    · simp only [if_true, bind_ok, loadData_ok, pure_ok, and_assoc, exists_and_left, exists_eq_left, true_implies]
      rfl

/-- RTM (R327). -/
theorem returnMonitor_ok (a : Word) (s t : State) :
    returnMonitor a s = .ok t ↔ (counterZero (s.level - 1) = true → s.reaches (.abs s.dataPage) (s.base - 1)) ∧
      t = s.monitorLeft.jumpTo a := by
  simp only [returnMonitor, bind_ok, leaveMonitor_ok, pure_ok, and_assoc, exists_and_left, exists_eq_left]

/-- A return from a monitor call leaves PROG as it is. -/
@[simp] theorem State.monitorLeft_prog (s : State) : s.monitorLeft.prog = s.prog := by
  unfold State.monitorLeft; split <;> split <;> rfl

/-- RTMI (R328). -/
theorem returnMonitorIndirect_ok (a : Word) (s t : State) :
    returnMonitorIndirect a s = .ok t ↔ s.reaches (.abs s.dataPage) a ∧
      (counterZero (s.level - 1) = true → s.reaches (.abs s.dataPage) (s.base - 1)) ∧
      t = s.monitorLeft.jumpTo (s.word s.dataPage a + s.prog) := by
  simp only [returnMonitorIndirect, bind_ok, loadData_ok, leaveMonitor_ok, pure_ok, and_assoc, exists_and_left, exists_eq_left,
    State.monitorLeft_prog]

/-! ### Interrupt-related instructions -/

/-- CPU (R329). -/
theorem notify_ok (o : Operand) (s t : State) :
    notify o s = .ok t ↔ s.placeReaches (o.loc s) ∧ t = (s.emit (.notifyVector (s.valueAt (o.loc s)))).finish := by
  simp only [notify, bind_ok, read_ok, pure_ok, and_assoc, exists_and_left, exists_eq_left]

/-- TRP stops with InternalInterrupt(1), the modification cleared (R331). -/
theorem trap_stops (s : State) : outcome (trap s) = .fault (.internalInterrupt 1 s.clearModification) := rfl

@[simp] theorem processSaved_plat (s : State) (p : Byte) (a cont : Word) : (s.processSaved p a cont).plat = s.plat := by
  have h := congrArg State.plat (processSaved_rest s p a cont)
  exact h

@[simp] theorem processSaved_spm (s : State) (p : Byte) (a cont : Word) : (s.processSaved p a cont).spm = s.spm := by
  have h := congrArg State.spm (processSaved_rest s p a cont)
  exact h

/-- NMI (R330): the descriptor reference, the transfers and the state left. -/
theorem nonMaskable_ok (s t : State) :
    nonMaskable s = .ok t ↔
      let s0 := (s.emit .issueNmi).clearModification
      let d := s.word 0xFF s.nmiReference
      let p := lowByte (s.word 0xFF (s.nmiReference + 1))
      s.reaches (.abs 0xFF) s.nmiReference ∧ s.reaches (.abs 0xFF) (s.nmiReference + 1) ∧ s0.saveReaches p d ∧
      s.reaches (.abs p) (d + 16) ∧ s.reaches (.abs p) (d + 17) ∧
      t = { ((s0.processSaved p d (s.pc + 1)).putWord p (d + 16) (zext s.spm)).putWord p (d + 17) 8 with awaitingNmi := true } := by
  simp only [nonMaskable, bind_ok, load_ok, saveProcess_ok, store_ok, pure_ok, and_assoc, exists_and_left, exists_eq_left,
    State.reaches, processSaved_plat, processSaved_spm, State.putWord_plat]
  rfl

/-! ### Multiple moves -/

/-- The state after `n` words of MOVM (R187). -/
def wordsMoved (f1 f2 : RegNum) : Nat → State → State
  | 0, s => s
  | n + 1, s =>
    let s1 := s.putWord s.dataPage (s.base + s.reg f2) (s.word s.dataPage (s.base + s.reg f1))
    let s2 := s1.setReg f1 (s1.reg f1 + 1)
    wordsMoved f1 f2 n (s2.setReg f2 (s2.reg f2 + 1))

/-- When MOVM answers, this is what it answers. -/
theorem moveWords_of_ok (f1 f2 : RegNum) (n : Nat) (s t : State) (h : moveWords f1 f2 n s = .ok t) : t = wordsMoved f1 f2 n s := by
  induction n generalizing s with
  | zero => exact (ok_ok _ _).mp h
  | succ n ih =>
    simp only [moveWords, bind_ok, loadData_ok, storeData_ok] at h
    obtain ⟨_, ⟨_, rfl⟩, _, ⟨_, rfl⟩, h⟩ := h
    exact ih _ h

/-- MOVM answers when every word of the data page answers. -/
theorem moveWords_answers (f1 f2 : RegNum) (n : Nat) (s : State) (h : ∀ a, s.reaches (.abs s.dataPage) a) :
    moveWords f1 f2 n s = .ok (wordsMoved f1 f2 n s) := by
  induction n generalizing s with
  | zero => rfl
  | succ n ih =>
    have h1 := (loadData_ok s (s.base + s.reg f1) _).mpr ⟨h _, rfl⟩
    have h2 := (storeData_ok s (s.base + s.reg f2) (s.word s.dataPage (s.base + s.reg f1)) _).mpr ⟨h _, rfl⟩
    simp only [moveWords, h1, h2, ok_bind]
    exact ih _ h

/-- The state after registers are stacked in the order of a list (R190). -/
def registersStacked : List RegNum → State → State
  | [], s => s
  | r :: t, s =>
    let s1 := s.setReg 7 (s.reg 7 - 1)
    registersStacked t (s1.putWord s.dataPage (s.base + (s.reg 7 - 1) + s.mod) (s1.reg r))

theorem stackRegisters_of_ok (rs : List RegNum) (s t : State) (h : stackRegisters rs s = .ok t) : t = registersStacked rs s := by
  induction rs generalizing s with
  | nil => exact (ok_ok _ _).mp h
  | cons r rs ih =>
    simp only [stackRegisters, bind_ok, storeData_ok, State.setReg_reg, if_true] at h
    obtain ⟨_, ⟨_, rfl⟩, h⟩ := h
    have h' := ih _ h
    simp only [registersStacked, State.setReg_reg]
    exact h'

theorem stackRegisters_answers (rs : List RegNum) (s : State) (h : ∀ a, s.reaches (.abs s.dataPage) a) :
    stackRegisters rs s = .ok (registersStacked rs s) := by
  induction rs generalizing s with
  | nil => rfl
  | cons r rs ih =>
    have h2 := (storeData_ok (s.setReg 7 (s.reg 7 - 1)) (s.base + (s.reg 7 - 1) + s.mod)
      ((s.setReg 7 (s.reg 7 - 1)).reg r) _).mpr ⟨h _, rfl⟩
    simp only [stackRegisters, State.setReg_reg, if_true, State.setReg_base, State.setReg_mod, registersStacked] at h2 ⊢
    rw [h2, ok_bind]
    exact ih _ h

/-- UNS C4: the registers loaded and the pointer advanced (R191). -/
theorem unstackMany_ok (c : BitVec 4) (s t : State) :
    unstackMany c s = .ok t ↔ ¬ c < 8 ∧
      let s1 := s.setReg 7 (s.reg 7 + s.unstackAdvance (15 - c.toNat))
      wordsReach s.plat s.dataPage (s.base + s.reg 7 + s.mod) (regsUpTo (15 - c.toNat)).length ∧
      t = (loadedRegisters s1 s.dataPage (s.base + s.reg 7 + s.mod) (regsUpTo (15 - c.toNat))).finish := by
  unfold unstackMany
  by_cases h : c < 8
  · simp only [h, if_true, not_true_eq_false, false_and, iff_false]
    exact fun h => nomatch h
  · simp only [h, if_false, bind_ok, loadRegisters_ok, pure_ok, and_assoc, exists_and_left, exists_eq_left, not_false_eq_true,
      true_and]
    rfl

end Sys2Proof.Machine
end

