-- ==== Sys2Proof/Laws/Transfers.lean ====
section
/-! SUPPORT. An operation that stops at the first of some transfers that fails: one lemma for each operation that transfers, so that what a meaning
does when a transfer fails is read off its text (R384). -/

namespace Sys2Proof.Machine

/-- `r` stops with the transfer error of the first of `ts` that fails in `s`, absolute memory being `m` before them and as the stores before the
failing one leave it after. -/
def StopsAt (s : State) (m : Memory) (ts : List Transfer) (r : Run State) : Prop :=
  ∀ k sp a, s.firstFailure ts = some (k, sp, a) →
    ∃ t, r = .error (.fault (.transferError k sp a t)) ∧
      t.mem = (ts.takeWhile fun x => (x.failure s).isNone).foldl Transfer.applied m

/-- The statement of an instruction's meaning. -/
theorem stopsAt_outcome (s : State) (ts : List Transfer) (r : Run State) (h : StopsAt s s.mem ts r) (k : TransferKind) (sp : Space)
    (a : Word) (hf : s.firstFailure ts = some (k, sp, a)) :
    ∃ t, outcome r = .fault (.transferError k sp a t) ∧ t.mem = s.memoryAtFailure ts := by
  obtain ⟨t, rfl, ht⟩ := h k sp a hf
  exact ⟨t, rfl, ht⟩

theorem stopsAt_nil (s : State) (m : Memory) (r : Run State) : StopsAt s m [] r := fun _ _ _ h => nomatch h

/-- The first transfer fails, or goes through and the rest follows. -/
theorem stopsAt_cons (s : State) (m : Memory) (x : Transfer) (ts : List Transfer) (r : Run State)
    (hf : ∀ k sp a, x.failure s = some (k, sp, a) → ∃ t, r = .error (.fault (.transferError k sp a t)) ∧ t.mem = m)
    (hn : x.failure s = none → StopsAt s (x.applied m) ts r) : StopsAt s m (x :: ts) r := by
  intro k sp a h
  cases hx : x.failure s with
  | some e =>
    simp only [State.firstFailure, List.findSome?_cons, hx, Option.some.injEq] at h
    obtain ⟨t, rfl, ht⟩ := hf k sp a (hx.trans (congrArg some h))
    exact ⟨t, rfl, by simpa only [List.takeWhile_cons, hx, Option.isNone_some, Bool.false_eq_true, if_false, List.foldl_nil] using ht⟩
  | none =>
    simp only [State.firstFailure, List.findSome?_cons, hx] at h
    obtain ⟨t, rfl, ht⟩ := hn hx k sp a h
    exact ⟨t, rfl, by simpa only [List.takeWhile_cons, hx, Option.isNone_none, if_true, List.foldl_cons] using ht⟩

theorem failure_word (s : State) (sp : Space) (a : Word) (e : TransferKind × Space × Word) :
    (Transfer.word sp a).failure s = some e ↔ ∃ k, transferFailure s.plat sp a = some k ∧ (k, sp, a) = e := by
  simp only [Transfer.failure, Option.map_eq_some_iff]

theorem failure_word_none (s : State) (sp : Space) (a : Word) : (Transfer.word sp a).failure s = none ↔ s.reaches sp a := by
  simp only [Transfer.failure, Option.map_eq_none_iff, State.reaches]

/-! ### Absolute memory -/

/-- A word read, in a state with the platform of `s`. -/
theorem stopsAt_load (s u : State) (m : Memory) (p : Byte) (a : Word) (ts : List Transfer) (f : Word → Run State) (hp : u.plat = s.plat)
    (hm : u.mem = m) (h : u.reaches (.abs p) a → StopsAt s m ts (f (u.word p a))) :
    StopsAt s m (.word (.abs p) a :: ts) (u.load p a >>= f) := by
  refine stopsAt_cons s m _ ts _ (fun k sp b hx => ?_) fun hx => ?_
  · obtain ⟨k', hk, he⟩ := (failure_word s _ _ _).mp hx
    cases he
    exact ⟨u, by rw [load_failed u p a k (hp ▸ hk), error_bind], hm⟩
  · have hr : u.reaches (.abs p) a := by rw [State.reaches, hp]; exact (failure_word_none s _ _).mp hx
    rw [load_reached u p a hr, ok_bind]
    exact h hr

theorem stopsAt_loadByte (s u : State) (m : Memory) (p : Byte) (ba : Nat) (ts : List Transfer) (f : Byte → Run State) (hp : u.plat = s.plat)
    (hm : u.mem = m) (h : u.reaches (.abs p) (byteWord ba) → StopsAt s m ts (f (u.byteAt p ba))) :
    StopsAt s m (.word (.abs p) (byteWord ba) :: ts) (u.loadByte p ba >>= f) := by
  refine stopsAt_cons s m _ ts _ (fun k sp b hx => ?_) fun hx => ?_
  · obtain ⟨k', hk, he⟩ := (failure_word s _ _ _).mp hx
    cases he
    exact ⟨u, by rw [loadByte_failed u p ba k (hp ▸ hk), error_bind], hm⟩
  · have hr : u.reaches (.abs p) (byteWord ba) := by rw [State.reaches, hp]; exact (failure_word_none s _ _).mp hx
    rw [loadByte_reached u p ba hr, ok_bind]
    exact h hr

/-- A word stored, another transfer following. -/
theorem stopsAt_store (s u : State) (m : Memory) (p : Byte) (a v : Word) (ts : List Transfer) (f : State → Run State) (hp : u.plat = s.plat)
    (hm : u.mem = m) (h : u.reaches (.abs p) a → StopsAt s (m.writeWord (wordIndex p a) v) ts (f (u.putWord p a v))) :
    StopsAt s m (.store p a v :: ts) (u.store p a v >>= f) := by
  refine stopsAt_cons s m _ ts _ (fun k sp b hx => ?_) fun hx => ?_
  · obtain ⟨k', hk, he⟩ := (failure_word s (.abs p) a _).mp hx
    cases he
    exact ⟨u, by rw [store_failed u p a v k (hp ▸ hk), error_bind], hm⟩
  · have hr : u.reaches (.abs p) a := by rw [State.reaches, hp]; exact (failure_word_none s (.abs p) a).mp hx
    rw [store_reached u p a v hr, ok_bind]
    exact h hr

/-- The last store of an instruction. -/
theorem stopsAt_lastStore (s u : State) (m : Memory) (p : Byte) (a v : Word) (f : State → Run State) (hp : u.plat = s.plat)
    (hm : u.mem = m) : StopsAt s m [.word (.abs p) a] (u.store p a v >>= f) := by
  refine stopsAt_cons s m _ [] _ (fun k sp b hx => ?_) fun _ => stopsAt_nil _ _ _
  obtain ⟨k', hk, he⟩ := (failure_word s _ _ _).mp hx
  cases he
  exact ⟨u, by rw [store_failed u p a v k (hp ▸ hk), error_bind], hm⟩

theorem stopsAt_lastStoreByte (s u : State) (m : Memory) (p : Byte) (ba : Nat) (v : Byte) (f : State → Run State) (hp : u.plat = s.plat)
    (hm : u.mem = m) : StopsAt s m [.word (.abs p) (byteWord ba)] (u.storeByte p ba v >>= f) := by
  refine stopsAt_cons s m _ [] _ (fun k sp b hx => ?_) fun _ => stopsAt_nil _ _ _
  obtain ⟨k', hk, he⟩ := (failure_word s _ _ _).mp hx
  cases he
  exact ⟨u, by rw [storeByte_failed u p ba v k (hp ▸ hk), error_bind], hm⟩

/-! ### Places -/

/-- A place read. -/
theorem stopsAt_read (s u : State) (m : Memory) (l : Loc) (ts : List Transfer) (f : Word → Run State) (hp : u.plat = s.plat)
    (hd : u.dataPage = s.dataPage) (hm : u.mem = m) (h : u.placeReaches l → StopsAt s m ts (f (u.valueAt l))) :
    StopsAt s m (s.place l ++ ts) (u.read l >>= f) := by
  cases l with
  | reg r => exact h trivial
  | data a =>
    simp only [State.place, State.dataWord, ← hd]
    exact stopsAt_load s u m u.dataPage a ts f hp hm h

/-- The last place read that can fail. -/
theorem stopsAt_lastRead (s u : State) (m : Memory) (l : Loc) (f : Word → Run State) (hp : u.plat = s.plat)
    (hd : u.dataPage = s.dataPage) (hm : u.mem = m) : StopsAt s m (s.place l) (u.read l >>= f) := by
  rw [← List.append_nil (s.place l)]
  exact stopsAt_read s u m l [] f hp hd hm fun _ => stopsAt_nil _ _ _

/-- The last place written by an instruction. -/
theorem stopsAt_lastWrite (s u : State) (m : Memory) (l : Loc) (v : Word) (f : State → Run State) (hp : u.plat = s.plat)
    (hd : u.dataPage = s.dataPage) (hm : u.mem = m) : StopsAt s m (s.place l) (u.write l v >>= f) := by
  cases l with
  | reg r => exact stopsAt_nil _ _ _
  | data a =>
    simp only [State.place, State.dataWord, ← hd]
    exact stopsAt_lastStore s u m u.dataPage a v f hp hm

/-! ### Several words -/

theorem ascending_succ (p : Byte) (a : Word) (n : Nat) : ascending p a (n + 1) = .word (.abs p) a :: ascending p (a + 1) n := by
  simp only [ascending, List.range_succ_eq_map, List.map_cons, List.map_map, BitVec.ofNat_eq_ofNat, BitVec.add_zero]
  refine congrArg _ (List.map_congr_left fun k _ => ?_)
  show Transfer.word _ (a + BitVec.ofNat 16 (k + 1)) = .word _ (a + 1 + BitVec.ofNat 16 k)
  rw [BitVec.ofNat_add, BitVec.add_assoc, BitVec.add_comm (BitVec.ofNat 16 k)]
  rfl

/-- Registers loaded from ascending addresses, memory as it was. -/
theorem stopsAt_loadRegisters (rs : List RegNum) (s u : State) (m : Memory) (p : Byte) (a : Word) (ts : List Transfer) (f : State → Run State)
    (hp : u.plat = s.plat) (hm : u.mem = m)
    (h : wordsReach u.plat p a rs.length → StopsAt s m ts (f (loadedRegisters u p a rs))) :
    StopsAt s m (ascending p a rs.length ++ ts) (u.loadRegisters p a rs >>= f) := by
  induction rs generalizing u a with
  | nil => exact h trivial
  | cons r rs ih =>
    rw [List.length_cons, ascending_succ, State.loadRegisters, bind_assoc]
    exact stopsAt_load s u m p a _ _ hp hm fun hr => ih _ _ hp hm fun h' => h ⟨hr, h'⟩

/-- Words stored at ascending addresses, another transfer following. -/
theorem stopsAt_storeWords (vs : List Word) (s u : State) (m : Memory) (p : Byte) (a : Word) (ts : List Transfer) (f : State → Run State)
    (hp : u.plat = s.plat) (hm : u.mem = m)
    (h : ∀ m', (storedWords u p a vs).mem = m' → StopsAt s m' ts (f (storedWords u p a vs))) :
    StopsAt s m ((vs.zipIdx.map fun x => .store p (a + BitVec.ofNat 16 x.2) x.1) ++ ts) (u.storeWords p a vs >>= f) := by
  suffices ∀ n (b : Word), a = b + BitVec.ofNat 16 n →
      StopsAt s m (((vs.zipIdx n).map fun x => .store p (b + BitVec.ofNat 16 x.2) x.1) ++ ts) (u.storeWords p a vs >>= f) from
    this 0 a (by simp)
  induction vs generalizing u m a with
  | nil => exact fun _ _ _ => h m hm
  | cons v vs ih =>
    intro n b hb
    rw [List.zipIdx_cons, List.map_cons, List.cons_append, State.storeWords, bind_assoc, ← hb]
    refine stopsAt_store s u m p a v _ _ hp hm fun _ => ih (u.putWord p a v) _ _ hp (hm ▸ rfl) h (n + 1) b ?_
    rw [hb, BitVec.ofNat_add, BitVec.add_assoc]
    rfl

/-! ### Map memory and devices -/

theorem stopsAt_loadMap (s u : State) (m : Memory) (a : Word) (ts : List Transfer) (f : Word → Run State) (hp : u.plat = s.plat)
    (hm : u.mem = m) (h : StopsAt s m ts (f (u.mapMem.readWord a.toNat))) :
    StopsAt s m (.word .mapMem a :: ts) (u.loadMap a >>= f) := by
  refine stopsAt_cons s m _ ts _ (fun k sp b hx => ?_) fun hx => ?_
  · obtain ⟨k', hk, he⟩ := (failure_word s _ _ _).mp hx
    cases he
    exact ⟨u, by rw [State.loadMap, access_stop u _ a k (hp ▸ hk), error_bind, error_bind], hm⟩
  · rw [(loadMap_ok u a _).mpr ⟨by rw [State.reaches, hp]; exact (failure_word_none s _ _).mp hx, rfl⟩, ok_bind]
    exact h

theorem stopsAt_lastStoreMap (s u : State) (m : Memory) (a v : Word) (f : State → Run State) (hp : u.plat = s.plat) (hm : u.mem = m) :
    StopsAt s m [.word .mapMem a] (u.storeMap a v >>= f) := by
  refine stopsAt_cons s m _ [] _ (fun k sp b hx => ?_) fun _ => stopsAt_nil _ _ _
  obtain ⟨k', hk, he⟩ := (failure_word s _ _ _).mp hx
  cases he
  exact ⟨u, by rw [State.storeMap, access_stop u _ a k (hp ▸ hk), error_bind, error_bind], hm⟩

/-- A transfer with a device: it fails, or its answer is used up. -/
theorem stopsAt_ioTransfer (s u : State) (m : Memory) (kind : IoKind) (dev : Word) (ts : List Transfer) (f : Word × State → Run State)
    (hp : u.plat = s.plat) (hr : u.ioReplies = s.ioReplies) (hm : u.mem = m)
    (h : ∀ v, u.deviceAnswers kind dev v → StopsAt s m ts (f (v, { u with ioReplies := (takeReply kind dev u.ioReplies).2 }))) :
    StopsAt s m (.device kind dev :: ts) (u.ioTransfer kind dev >>= f) := by
  refine stopsAt_cons s m _ ts _ (fun k sp b hx => ?_) fun hx => ?_
  · simp only [Transfer.failure, ← hp, ← hr] at hx
    split at hx
    · rename_i e he
      cases hx
      exact ⟨u, by rw [State.ioTransfer, access_stop u _ dev _ he, error_bind, error_bind], hm⟩
    · rename_i e h1 h2
      cases hx
      refine ⟨{ u with ioReplies := (takeReply kind dev u.ioReplies).2 }, ?_, hm⟩
      rw [State.ioTransfer, (access_ok u _ dev ()).mpr h1, ok_bind, h2]
      rfl
    · cases hx
  · simp only [Transfer.failure, ← hp, ← hr] at hx
    split at hx
    · cases hx
    · cases hx
    · rename_i v h1 h2
      have hv : u.deviceAnswers kind dev v := ⟨h1, h2⟩
      rw [(ioTransfer_ok u kind dev v _).mpr ⟨hv, rfl⟩, ok_bind]
      exact h v hv

end Sys2Proof.Machine
end

