-- ==== Sys2Proof/Tests/Slice0.lean ====
section
/-! SUPPORT. Tests. Every expected word and value comes from spec/: the encodings of the opcode table and the derived vectors of spec/95. The
last part shows, for every statement of the certificates that has hypotheses, a state and operands that meet them. -/

open Sys2Proof Sys2Proof.Machine

namespace Sys2Proof.Tests

/-! ### Helpers -/

/-- A memory that holds some words, given by page, address and value. -/
def words : List (Byte × Word × Word) → Memory
  | [] => ⟨[]⟩
  | w :: t => (words t).writeWord (wordIndex w.1 w.2.1) w.2.2

/-- What is seen of the state after the instruction of a word, if the word decodes in the active set and the instruction goes on. -/
def after {α : Type} (w : Word) (s : State) (see : State → α) : Option α :=
  match decodeFor s.plat.cpu s.alt w with
  | none => none
  | some i =>
    match exec i s with
    | .next t => some (see t)
    | _ => none

/-! ### Well-formedness: one ill-formed instruction for each check -/

/-- STC 0 would stack registers 15 down to 0 (D30). -/
theorem test_wellFormed_refuses_stc : (Instr.stcC4 0).wellFormed .type8 = false := by decide

/-- UNS 7 would unstack registers 0 to 8 (D30). -/
theorem test_wellFormed_refuses_uns : (Instr.unsC4 7).wellFormed .type8 = false := by decide

/-- STC 8 and UNS 8 take the eight registers there are. -/
theorem test_wellFormed_accepts_eight : (Instr.stcC4 8).wellFormed .type8 = true ∧ (Instr.unsC4 8).wellFormed .type8 = true := by
  decide

/-- MRD belongs to CPU type 7 only (D1). -/
theorem test_wellFormed_refuses_type : (Instr.mrdR 1 2).wellFormed .type8 = false ∧ (Instr.mrdR 1 2).wellFormed .type7 = true := by
  decide

/-! ### Unassigned words are refused by the decoder -/

theorem test_decode_unassigned : decodeStandard 0x0057 = none ∧ decodeAlternative 0x0000 = none := by decide

/-- An instruction that a CPU type does not have is unassigned there. -/
theorem test_decode_by_type : decodeFor .type1 true 0x1393 = none ∧ decodeFor .type8 true 0x1393 = some (.drdR 1 3) := by decide

/-! ### The step -/

/-- A word placed where the step fetches runs as its next instruction: MOVC 5, R0. -/
theorem test_withFetchWord_runs : step (State.reset.withFetchWord 16 0x0548) = exec (.movcC8R 5 0) (State.reset.withFetchWord 16 0x0548) := rfl

/-- A reset machine whose memory holds nothing executes the word 0000 of location 0. -/
theorem test_reset_fetches_zero : State.reset.fetch = .ok 0 := rfl


/-! ### Every row of the opcode table decodes to its instruction. Each word is the row's fixed bits and operand fields, written out from its
encoding (R122, R139, R150). -/

theorem test_decode_skip_1 :
    decodeStandard 0xAE00 = some (.sltpRC 2 14) ∧
    decodeStandard 0xD901 = some (.sltpXC 5 9) ∧
    decodeStandard 0xAE02 = some (.sgepRC 2 14) ∧
    decodeStandard 0xD903 = some (.sgepXC 5 9) ∧
    decodeStandard 0xAE04 = some (.slopRC 2 14) ∧
    decodeStandard 0xD905 = some (.slopXC 5 9) ∧
    decodeStandard 0xAE06 = some (.shspRC 2 14) ∧
    decodeStandard 0xD907 = some (.shspXC 5 9) ∧
    decodeStandard 0xAE40 = some (.sltRC 2 14) ∧
    decodeStandard 0xD941 = some (.sltXC 5 9) ∧
    decodeStandard 0xAE42 = some (.sgeRC 2 14) ∧
    decodeStandard 0xD943 = some (.sgeXC 5 9) ∧
    decodeStandard 0xAE44 = some (.sloRC 2 14) ∧
    decodeStandard 0xD945 = some (.sloXC 5 9) ∧
    decodeStandard 0xAE46 = some (.shsRC 2 14) ∧
    decodeStandard 0xD947 = some (.shsXC 5 9) := by decide

theorem test_decode_skip_2 :
    decodeStandard 0x5338 = some (.sozp 1 19) ∧
    decodeStandard 0xAD39 = some (.sonp 2 45) ∧
    decodeStandard 0x533A = some (.soz 1 19) ∧
    decodeStandard 0xAD3B = some (.son 2 45) ∧
    decodeStandard 0x2E3C = some (.snepRCn 2 14) ∧
    decodeStandard 0xD93C = some (.snepRC 5 9) ∧
    decodeStandard 0x2E3D = some (.snepXCn 2 14) ∧
    decodeStandard 0xD93D = some (.snepXC 5 9) ∧
    decodeStandard 0x2E3E = some (.seqpRCn 2 14) ∧
    decodeStandard 0xD93E = some (.seqpRC 5 9) ∧
    decodeStandard 0x2E3F = some (.seqpXCn 2 14) ∧
    decodeStandard 0xD93F = some (.seqpXC 5 9) ∧
    decodeStandard 0x2E7C = some (.sneRCn 2 14) ∧
    decodeStandard 0xD97C = some (.sneRC 5 9) ∧
    decodeStandard 0x2E7D = some (.sneXCn 2 14) ∧
    decodeStandard 0xD97D = some (.sneXC 5 9) := by decide

theorem test_decode_skip_3 :
    decodeStandard 0x2E7E = some (.seqRCn 2 14) ∧
    decodeStandard 0xD97E = some (.seqRC 5 9) ∧
    decodeStandard 0x2E7F = some (.seqXCn 2 14) ∧
    decodeStandard 0xD97F = some (.seqXC 5 9) ∧
    decodeStandard 0x59B0 = some (.sbnpRC 5 9) ∧
    decodeStandard 0x59B1 = some (.sbnpXC 5 9) ∧
    decodeStandard 0x59B2 = some (.sbzpRC 5 9) ∧
    decodeStandard 0x59B3 = some (.sbzpXC 5 9) ∧
    decodeStandard 0x59F0 = some (.sbnRC 5 9) ∧
    decodeStandard 0x59F1 = some (.sbnXC 5 9) ∧
    decodeStandard 0x59F2 = some (.sbzRC 5 9) ∧
    decodeStandard 0x59F3 = some (.sbzXC 5 9) ∧
    decodeStandard 0x52B4 = some (.sltpRR false 5 false 2) ∧
    decodeStandard 0x2FB4 = some (.sltpRR false 2 true 7) ∧
    decodeStandard 0xD2B4 = some (.sltpRR true 5 false 2) ∧
    decodeStandard 0xAFB4 = some (.sltpRR true 2 true 7) := by decide

theorem test_decode_skip_4 :
    decodeStandard 0x52B5 = some (.slopRR false 5 false 2) ∧
    decodeStandard 0x2FB5 = some (.slopRR false 2 true 7) ∧
    decodeStandard 0xD2B5 = some (.slopRR true 5 false 2) ∧
    decodeStandard 0xAFB5 = some (.slopRR true 2 true 7) ∧
    decodeStandard 0x52B6 = some (.sgepRR false 5 false 2) ∧
    decodeStandard 0x2FB6 = some (.sgepRR false 2 true 7) ∧
    decodeStandard 0xD2B6 = some (.sgepRR true 5 false 2) ∧
    decodeStandard 0xAFB6 = some (.sgepRR true 2 true 7) ∧
    decodeStandard 0x52B7 = some (.shspRR false 5 false 2) ∧
    decodeStandard 0x2FB7 = some (.shspRR false 2 true 7) ∧
    decodeStandard 0xD2B7 = some (.shspRR true 5 false 2) ∧
    decodeStandard 0xAFB7 = some (.shspRR true 2 true 7) ∧
    decodeStandard 0x52B8 = some (.snepRR false 5 false 2) ∧
    decodeStandard 0x2FB8 = some (.snepRR false 2 true 7) ∧
    decodeStandard 0xD2B8 = some (.snepRR true 5 false 2) ∧
    decodeStandard 0xAFB8 = some (.snepRR true 2 true 7) := by decide

theorem test_decode_skip_5 :
    decodeStandard 0x52BA = some (.seqpRR false 5 false 2) ∧
    decodeStandard 0x2FBA = some (.seqpRR false 2 true 7) ∧
    decodeStandard 0xD2BA = some (.seqpRR true 5 false 2) ∧
    decodeStandard 0xAFBA = some (.seqpRR true 2 true 7) ∧
    decodeStandard 0x27F4 = some (.sltRR false 2 false 7) ∧
    decodeStandard 0x5AF4 = some (.sltRR false 5 true 2) ∧
    decodeStandard 0xA7F4 = some (.sltRR true 2 false 7) ∧
    decodeStandard 0xDAF4 = some (.sltRR true 5 true 2) ∧
    decodeStandard 0x27F5 = some (.sloRR false 2 false 7) ∧
    decodeStandard 0x5AF5 = some (.sloRR false 5 true 2) ∧
    decodeStandard 0xA7F5 = some (.sloRR true 2 false 7) ∧
    decodeStandard 0xDAF5 = some (.sloRR true 5 true 2) ∧
    decodeStandard 0x27F6 = some (.sgeRR false 2 false 7) ∧
    decodeStandard 0x5AF6 = some (.sgeRR false 5 true 2) ∧
    decodeStandard 0xA7F6 = some (.sgeRR true 2 false 7) ∧
    decodeStandard 0xDAF6 = some (.sgeRR true 5 true 2) := by decide

theorem test_decode_skip_6 :
    decodeStandard 0x27F7 = some (.shsRR false 2 false 7) ∧
    decodeStandard 0x5AF7 = some (.shsRR false 5 true 2) ∧
    decodeStandard 0xA7F7 = some (.shsRR true 2 false 7) ∧
    decodeStandard 0xDAF7 = some (.shsRR true 5 true 2) ∧
    decodeStandard 0x27F8 = some (.sneRR false 2 false 7) ∧
    decodeStandard 0x5AF8 = some (.sneRR false 5 true 2) ∧
    decodeStandard 0xA7F8 = some (.sneRR true 2 false 7) ∧
    decodeStandard 0xDAF8 = some (.sneRR true 5 true 2) ∧
    decodeStandard 0x27FA = some (.seqRR false 2 false 7) ∧
    decodeStandard 0x5AFA = some (.seqRR false 5 true 2) ∧
    decodeStandard 0xA7FA = some (.seqRR true 2 false 7) ∧
    decodeStandard 0xDAFA = some (.seqRR true 5 true 2) := by decide

theorem test_decode_arith_1 :
    decodeStandard 0x5309 = some (.addRB6 1 19 1) ∧
    decodeStandard 0xAD13 = some (.dec 2 45) ∧
    decodeStandard 0x5316 = some (.inc 1 19) ∧
    decodeStandard 0xAD27 = some (.clr 2 45) ∧
    decodeStandard 0xAD36 = some (.addB6R 2 45 6) ∧
    decodeStandard 0x5967 = some (.sxt 5 9) ∧
    decodeStandard 0x278A = some (.addRR false 2 false 7) ∧
    decodeStandard 0x5A8A = some (.addRR false 5 true 2) ∧
    decodeStandard 0xA78A = some (.addRR true 2 false 7) ∧
    decodeStandard 0xDA8A = some (.addRR true 5 true 2) ∧
    decodeStandard 0x278B = some (.subRR false 2 false 7) ∧
    decodeStandard 0x5A8B = some (.subRR false 5 true 2) ∧
    decodeStandard 0xA78B = some (.subRR true 2 false 7) ∧
    decodeStandard 0xDA8B = some (.subRR true 5 true 2) ∧
    decodeStandard 0x278C = some (.andRR false 2 false 7) ∧
    decodeStandard 0x5A8C = some (.andRR false 5 true 2) := by decide

theorem test_decode_arith_2 :
    decodeStandard 0xA78C = some (.andRR true 2 false 7) ∧
    decodeStandard 0xDA8C = some (.andRR true 5 true 2) ∧
    decodeStandard 0x278D = some (.iorRR false 2 false 7) ∧
    decodeStandard 0x5A8D = some (.iorRR false 5 true 2) ∧
    decodeStandard 0xA78D = some (.iorRR true 2 false 7) ∧
    decodeStandard 0xDA8D = some (.iorRR true 5 true 2) ∧
    decodeStandard 0x278E = some (.incdRR 2 7) ∧
    decodeStandard 0x5A8E = some (.decdRR 5 2) ∧
    decodeStandard 0xA78F = some (.incdXM 2 7) ∧
    decodeStandard 0xDA8F = some (.decdXM 5 2) ∧
    decodeStandard 0x5CA9 = some (.addcCn8R 92 1) ∧
    decodeStandard 0xA7CE = some (.addcC8R 167 6) ∧
    decodeStandard 0x52D4 = some (.adduRR false 5 false 2) ∧
    decodeStandard 0x2FD4 = some (.adduRR false 2 true 7) ∧
    decodeStandard 0xD2D4 = some (.adduRR true 5 false 2) ∧
    decodeStandard 0xAFD4 = some (.adduRR true 2 true 7) := by decide

theorem test_decode_arith_3 :
    decodeStandard 0x52D5 = some (.subuRR false 5 false 2) ∧
    decodeStandard 0x2FD5 = some (.subuRR false 2 true 7) ∧
    decodeStandard 0xD2D5 = some (.subuRR true 5 false 2) ∧
    decodeStandard 0xAFD5 = some (.subuRR true 2 true 7) ∧
    decodeStandard 0x52E8 = some (.xor false 5 2) ∧
    decodeStandard 0xA7E8 = some (.xor true 2 7) ∧
    decodeStandard 0x2FEA = some (.mul false 2 7) ∧
    decodeStandard 0xDAEA = some (.mul true 5 2) ∧
    decodeStandard 0x27EB = some (.div false 2 7) ∧
    decodeStandard 0xD2EB = some (.div true 5 2) ∧
    decodeStandard 0x2EEC = some (.xtrRC 2 14) ∧
    decodeStandard 0xD9ED = some (.xtrXC 5 9) ∧
    decodeStandard 0x27BC = some (.dicpR 7) ∧
    decodeStandard 0x2ABC = some (.dicpM 2) ∧
    decodeStandard 0x37BC = some (.ddcpR 7) ∧
    decodeStandard 0x3ABC = some (.ddcpM 2) := by decide

theorem test_decode_arith_4 :
    decodeStandard 0x67BC = some (.swpR 7) ∧
    decodeStandard 0x6ABC = some (.swpM 2) ∧
    decodeStandard 0x97BC = some (.invR 7) ∧
    decodeStandard 0x9ABC = some (.invM 2) ∧
    decodeStandard 0xF2BC = some (.negR 2) ∧
    decodeStandard 0xFFBC = some (.negM 7) := by decide

theorem test_decode_move_1 :
    decodeStandard 0x5910 = some (.movcCn4X 5 9) ∧
    decodeStandard 0xD211 = some (.mmp 5 2) ∧
    decodeStandard 0x5319 = some (.movB6R 1 19 1) ∧
    decodeStandard 0xAD21 = some (.mvp 2 45 1) ∧
    decodeStandard 0x5C29 = some (.movcCn8R 92 1) ∧
    decodeStandard 0x5C49 = some (.movcC8R 92 1) ∧
    decodeStandard 0x5950 = some (.movcC4X 5 9) ∧
    decodeStandard 0xAD61 = some (.movlLoad 2 45 1) ∧
    decodeStandard 0x5C69 = some (.movB8R 92 1) ∧
    decodeStandard 0xA776 = some (.movRB8 167 6) ∧
    decodeStandard 0x537A = some (.movbLoad 1 19 2) ∧
    decodeStandard 0xAD86 = some (.movRB6 2 45 6) ∧
    decodeStandard 0x5392 = some (.movbStore 1 19 2) ∧
    decodeStandard 0xA79E = some (.movP8R 167 6) ∧
    decodeStandard 0x52B9 = some (.stcRM 5 2) ∧
    decodeStandard 0x2FB9 = some (.unsRM 2 7) := by decide

theorem test_decode_move_2 :
    decodeStandard 0x5ABB = some (.movR false 5 2) ∧
    decodeStandard 0xAFBB = some (.movR true 2 7) ∧
    decodeStandard 0x53D2 = some (.movlStore 1 19 2) ∧
    decodeStandard 0xDAE8 = some (.putX 5 2) ∧
    decodeStandard 0x2FE9 = some (.movm 2 7) ∧
    decodeStandard 0xDAE9 = some (.putR 5 2) ∧
    decodeStandard 0x27EE = some (.xchR 2 false 7) ∧
    decodeStandard 0x5AEE = some (.xchR 5 true 2) ∧
    decodeStandard 0xA7EF = some (.xchX 2 false 7) ∧
    decodeStandard 0xDAEF = some (.xchX 5 true 2) ∧
    decodeStandard 0x27F9 = some (.stcXM 2 7) ∧
    decodeStandard 0x5AF9 = some (.unsXM 5 2) ∧
    decodeStandard 0x2FFB = some (.movX false 2 7) ∧
    decodeStandard 0xDAFB = some (.movX true 5 2) ∧
    decodeStandard 0xA9BE = some (.unsC4 9) ∧
    decodeStandard 0xE9BE = some (.stcC4 9) := by decide

theorem test_decode_single_bit :
    decodeStandard 0x2E11 = some (.rels 2 14) ∧
    decodeStandard 0x2E51 = some (.ress 2 14) ∧
    decodeStandard 0x5252 = some (.setsR 5 false 2) ∧
    decodeStandard 0x2F52 = some (.setsR 2 true 7) ∧
    decodeStandard 0xD253 = some (.setsX 5 false 2) ∧
    decodeStandard 0xAF53 = some (.setsX 2 true 7) ∧
    decodeStandard 0x2788 = some (.clrsR 2 false 7) ∧
    decodeStandard 0x5A88 = some (.clrsR 5 true 2) ∧
    decodeStandard 0xA789 = some (.clrsX 2 false 7) ∧
    decodeStandard 0xDA89 = some (.clrsX 5 true 2) ∧
    decodeStandard 0x59A3 = some (.setsRC 5 9) ∧
    decodeStandard 0x59E3 = some (.setsXC 5 9) := by decide

theorem test_decode_jump_1 :
    decodeStandard 0x5312 = some (.jmpiB6 1 19) ∧
    decodeStandard 0xA717 = some (.jpzi 167) ∧
    decodeStandard 0x5C5A = some (.jmpLn10 92 2) ∧
    decodeStandard 0xA75C = some (.jmpLn8 167) ∧
    decodeStandard 0x5C5D = some (.jmpS2Ln8 92 .s4) ∧
    decodeStandard 0xA75E = some (.jmpS2Ln8 167 .s5) ∧
    decodeStandard 0x5C5F = some (.jmpS2Ln8 92 .s6) ∧
    decodeStandard 0xADA7 = some (.rpz 2 45) ∧
    decodeStandard 0xAEB0 = some (.jonRLn4 2 14) ∧
    decodeStandard 0xAEB1 = some (.jonXLn4 2 14) ∧
    decodeStandard 0xAEB2 = some (.jozRLn4 2 14) ∧
    decodeStandard 0xAEB3 = some (.jozXLn4 2 14) ∧
    decodeStandard 0xAEF0 = some (.jonRL4 2 14) ∧
    decodeStandard 0xAEF1 = some (.jonXL4 2 14) ∧
    decodeStandard 0xAEF2 = some (.jozRL4 2 14) ∧
    decodeStandard 0xAEF3 = some (.jozXL4 2 14) := by decide

theorem test_decode_jump_2 :
    decodeStandard 0xADBF = some (.jmpP6 2 45) ∧
    decodeStandard 0x5CC1 = some (.sob 92 1) ∧
    decodeStandard 0xA7D9 = some (.jmpL10 167 1) ∧
    decodeStandard 0x5CDC = some (.jmpL8 92) ∧
    decodeStandard 0xA7DD = some (.jmpS2L8 167 .s4) ∧
    decodeStandard 0x5CDE = some (.jmpS2L8 92 .s5) ∧
    decodeStandard 0xA7DF = some (.jmpS2L8 167 .s6) ∧
    decodeStandard 0x5CE7 = some (.jmpiB8 92) ∧
    decodeStandard 0x5CFC = some (.jmpiP8 92) ∧
    decodeStandard 0xA7FD = some (.jmpiS2P8 167 .s4) ∧
    decodeStandard 0x5CFE = some (.jmpiS2P8 92 .s5) ∧
    decodeStandard 0xA7FF = some (.jmpiS2P8 167 .s6) ∧
    decodeStandard 0x79BE = some (.jvnLn4 9) ∧
    decodeStandard 0xFEBE = some (.jvnL4 14) := by decide

theorem test_decode_modify :
    decodeStandard 0x5C14 = some (.modnB8 92) ∧
    decodeStandard 0xA715 = some (.modnP8 167) ∧
    decodeStandard 0xAD54 = some (.modB6 2 45) ∧
    decodeStandard 0x5355 = some (.modnB6 1 19) ∧
    decodeStandard 0xA756 = some (.mod8 167) ∧
    decodeStandard 0xA794 = some (.modB8 167) ∧
    decodeStandard 0x5C95 = some (.modP8 92) ∧
    decodeStandard 0x5CA4 = some (.modcCn8 92) ∧
    decodeStandard 0xA7A5 = some (.mod4Cn8 167) ∧
    decodeStandard 0xA7E4 = some (.modcC8 167) ∧
    decodeStandard 0x5CE5 = some (.mod4C8 92) ∧
    decodeStandard 0x32BD = some (.modnR 2) ∧
    decodeStandard 0x3FBD = some (.modnX 7) ∧
    decodeStandard 0x72BD = some (.modR 2) ∧
    decodeStandard 0x7FBD = some (.modX 7) := by decide

theorem test_decode_shift :
    decodeStandard 0xAE24 = some (.srlRC 2 14) ∧
    decodeStandard 0x5925 = some (.srllRC 5 9) ∧
    decodeStandard 0xAE26 = some (.sraRC 2 14) ∧
    decodeStandard 0xAE64 = some (.srlXC 2 14) ∧
    decodeStandard 0x5965 = some (.srllXC 5 9) ∧
    decodeStandard 0xAE66 = some (.sraXC 2 14) ∧
    decodeStandard 0xAEA0 = some (.sllRC 2 14) ∧
    decodeStandard 0x59A1 = some (.slllRC 5 9) ∧
    decodeStandard 0xAEA2 = some (.slcRC 2 14) ∧
    decodeStandard 0xAEE0 = some (.sllXC 2 14) ∧
    decodeStandard 0x59E1 = some (.slllXC 5 9) ∧
    decodeStandard 0xAEE2 = some (.slcXC 2 14) := by decide

theorem test_decode_io :
    decodeStandard 0x5A96 = some (.sioR 5 2) ∧
    decodeStandard 0xAF96 = some (.cioR 2 7) ∧
    decodeStandard 0x5A97 = some (.rioR 5 2) ∧
    decodeStandard 0xAF97 = some (.wioR 2 7) ∧
    decodeStandard 0x5AD6 = some (.sioX 5 2) ∧
    decodeStandard 0xAFD6 = some (.cioX 2 7) ∧
    decodeStandard 0x5AD7 = some (.rioX 5 2) ∧
    decodeStandard 0xAFD7 = some (.wioX 2 7) := by decide

theorem test_decode_special_1 :
    decodeStandard 0x5CA6 = some (.mon 92) ∧
    decodeStandard 0x93E3 = some (.rtmi 19) ∧
    decodeStandard 0xADE6 = some (.rtm 2 45) ∧
    decodeStandard 0x07BC = some (.ldpR 7) ∧
    decodeStandard 0x0ABC = some (.ldpM 2) ∧
    decodeStandard 0x17BC = some (.sssR 7) ∧
    decodeStandard 0x1ABC = some (.sssM 2) ∧
    decodeStandard 0x47BC = some (.ldnR 7) ∧
    decodeStandard 0x4ABC = some (.ldnM 2) ∧
    decodeStandard 0x57BC = some (.ldtR 7) ∧
    decodeStandard 0x5ABC = some (.ldtM 2) ∧
    decodeStandard 0x87BC = some (.xcu 7) ∧
    decodeStandard 0x8ABC = some (.xcui 2) ∧
    decodeStandard 0xB0BC = some (.alt) ∧
    decodeStandard 0xB1BC = some (.lbr) ∧
    decodeStandard 0xB2BC = some (.nmi) := by decide

theorem test_decode_special_2 :
    decodeStandard 0xC2BC = some (.svtR 2) ∧
    decodeStandard 0xCFBC = some (.svtM 7) ∧
    decodeStandard 0xD2BC = some (.svsR 2) ∧
    decodeStandard 0xDFBC = some (.svsM 7) ∧
    decodeStandard 0xE2BC = some (.ldsR 2) ∧
    decodeStandard 0xEFBC = some (.ldsM 7) ∧
    decodeStandard 0x02BD = some (.slsR 2) ∧
    decodeStandard 0x0FBD = some (.slsM 7) ∧
    decodeStandard 0x52BD = some (.svlR 2) ∧
    decodeStandard 0x5FBD = some (.svlM 7) ∧
    decodeStandard 0x82BD = some (.ldlR 2) ∧
    decodeStandard 0x8FBD = some (.ldlM 7) ∧
    decodeStandard 0x09BE = some (.trp 9) ∧
    decodeStandard 0x2EBE = some (.svp 14) ∧
    decodeStandard 0x62BE = some (.cpuR 2) ∧
    decodeStandard 0x6FBE = some (.cpuM 7) := by decide

theorem test_decode_special_3 :
    decodeStandard 0x80BE = some (.cae) ∧
    decodeStandard 0x81BE = some (.cad) ∧
    decodeStandard 0x83BE = some (.tst) ∧
    decodeStandard 0xDEBE = some (.ldm 14) := by decide

theorem test_decode_alternative_1 :
    decodeAlternative 0x5286 = some (.aamow 5 2 6) ∧
    decodeAlternative 0xA781 = some (.lamow 2 7 1) ∧
    decodeAlternative 0x5A86 = some (.almow 5 2 6) ∧
    decodeAlternative 0x2789 = some (.aamob 2 7 1) ∧
    decodeAlternative 0xD28E = some (.lamob 5 2 6) ∧
    decodeAlternative 0x2F89 = some (.almob 2 7 1) ∧
    decodeAlternative 0x5291 = some (.amowStore 5 2) ∧
    decodeAlternative 0x2F91 = some (.amowLoad 2 7) ∧
    decodeAlternative 0xD291 = some (.amobStore 5 2) ∧
    decodeAlternative 0xAF91 = some (.amobLoad 2 7) ∧
    decodeAlternative 0x5992 = some (.aress 5 9) ∧
    decodeAlternative 0xAE92 = some (.arels 2 14) ∧
    decodeAlternative 0x5293 = some (.drdR 5 2) ∧
    decodeAlternative 0x2F93 = some (.drdX 2 7) ∧
    decodeAlternative 0xD293 = some (.dwrR 5 2) ∧
    decodeAlternative 0xAF93 = some (.dwrX 2 7) := by decide

theorem test_decode_alternative_2 :
    decodeAlternative 0x5251 = some (.mrdR 5 2) ∧
    decodeAlternative 0x2F51 = some (.mrdX 2 7) ∧
    decodeAlternative 0xD251 = some (.mwrR 5 2) ∧
    decodeAlternative 0xAF51 = some (.mwrX 2 7) ∧
    decodeAlternative 0x5052 = some (.rspR 5) ∧
    decodeAlternative 0x2852 = some (.rspX 2) ∧
    decodeAlternative 0xD052 = some (.wspR 5) ∧
    decodeAlternative 0xA852 = some (.wspX 2) ∧
    decodeAlternative 0x5253 = some (.arsc 5 2) ∧
    decodeAlternative 0xA753 = some (.ared 2 7) := by decide

/-! ### Steps of single instructions: the derived vectors of spec/95, part 2. -/

/-- V2 of spec/95: MODC -255 (R171). -/
theorem test_V2_modc :
    after 0xFFA4 { State.reset with pc := 0x100, mod := 0x100, modified := true, psw := 0 }
        (fun t => (t.mod, t.pc)) =
      some (1, 0x101) := by decide

/-- V3 of spec/95: MOD4 #FF (R172). -/
theorem test_V3_mod4 :
    after 0xFFE5 { State.reset with pc := 0x100, psw := 0 }
        (fun t => (t.mod, t.pc)) =
      some (0xFF0, 0x101) := by decide

/-- V5 of spec/95: MOD8 #FF (R173 wraps modulo 65536). -/
theorem test_V5_mod8 :
    after 0xFF56 { State.reset with pc := 0x100, mod := 0x100, modified := true, psw := 0 }
        (fun t => (t.mod, t.pc)) =
      some (0, 0x101) := by decide

/-- V6 of spec/95: MOD 3.X5 (R174 own address not displaced by MOD). -/
theorem test_V6_mod :
    after 0x4354 { State.reset with x := #v[0, 0, 0, 0, 0, 0x20, 0, 0], pc := 0x100, base := 0x1000, mod := 0x100, modified := true, psw := 0, mem := words [(0, 0x1023, 7), (0, 0x1123, 0x99)] }
        (fun t => (t.mod, t.pc)) =
      some (0x107, 0x101) := by decide

/-- V7 of spec/95: MOD B8 #10 (R174). -/
theorem test_V7_mod :
    after 0x1094 { State.reset with pc := 0x100, base := 0x1000, psw := 0, mem := words [(0, 0x1010, 0xFFFE)] }
        (fun t => (t.mod, t.pc)) =
      some (0xFFFE, 0x101) := by decide

/-- V10 of spec/95: MODN R2 (R175 -0x8000 = 0x8000). -/
theorem test_V10_modn :
    after 0x32BD { State.reset with x := #v[0, 0, 0x8000, 0, 0, 0, 0, 0], pc := 0x100, psw := 0 }
        (fun t => (t.mod, t.pc)) =
      some (0x8000, 0x101) := by decide

/-- V20 of spec/95: MOVC #FF,R0 (R181). -/
theorem test_V20_movc :
    after 0xFF48 { State.reset with pc := 0x100, psw := 0 }
        (fun t => (t.reg 0, t.pc)) =
      some (0xFF, 0x101) := by decide

/-- V23 of spec/95: MOVC #34,R1 (R181). -/
theorem test_V23_movc :
    after 0x3449 { State.reset with pc := 0x100, mod := 0x1200, modified := true, psw := 0 }
        (fun t => (t.reg 1, t.mod, t.pc)) =
      some (0x1234, 0, 0x101) := by decide

/-- V27 of spec/95: MOV #10,R0 (B8) (R182). -/
theorem test_V27_mov :
    after 0x1068 { State.reset with pc := 0x100, base := 0x1000, mod := 0x100, modified := true, psw := 0, mem := words [(0, 0x1110, 0xCAFE)] }
        (fun t => (t.reg 0, t.mod, t.pc)) =
      some (0xCAFE, 0, 0x101) := by decide

/-- V33 of spec/95: MOV R3,5.X7 (R182 address wraps: FFF0+20+5 = 0015). -/
theorem test_V33_mov :
    after 0xC583 { State.reset with x := #v[0, 0, 0, 0xABCD, 0, 0, 0, 0x20], pc := 0x100, base := 0xFFF0, psw := 0 }
        (fun t => (t.data 0x15, t.pc)) =
      some (0xABCD, 0x101) := by decide

/-- V35 of spec/95: MOVB 0.X4,R0 (R183 even: low byte). -/
theorem test_V35_movb :
    after 0x0078 { State.reset with x := #v[0xFFFF, 0, 0, 0, 2, 0, 0, 0], pc := 0x100, base := 0x100, psw := 0, mem := words [(0, 0x101, 0xABCD)] }
        (fun t => (t.reg 0, t.pc)) =
      some (0xCD, 0x101) := by decide

/-- V36 of spec/95: MOVB 0.X4,R0 (R183 odd: high byte). -/
theorem test_V36_movb :
    after 0x0078 { State.reset with x := #v[0xFFFF, 0, 0, 0, 3, 0, 0, 0], pc := 0x100, base := 0x100, psw := 0, mem := words [(0, 0x101, 0xABCD)] }
        (fun t => (t.reg 0, t.pc)) =
      some (0xAB, 0x101) := by decide

/-- V40 of spec/95: MOVL 1.X6,R2 (R184 load form ignores MOD). -/
theorem test_V40_movl :
    after 0x8162 { State.reset with x := #v[0, 0, 0, 0, 0, 0, 0x200, 0], pc := 0x100, mod := 4, modified := true, psw := 0, mem := words [(0, 0x201, 0x1111), (0, 0x202, 0x2222), (0, 0x205, 0x9999)] }
        (fun t => (t.reg 2, t.reg 3, t.pc)) =
      some (0x1111, 0x2222, 0x101) := by decide

/-- V43 of spec/95: MVP 1.X4,R1 (R185). -/
theorem test_V43_mvp :
    after 0x0121 { State.reset with x := #v[0, 0, 0, 0, 0x12, 0, 0, 0], pc := 0x100, prog := 0x4000, mod := 1, modified := true, psw := 0, mem := words [(0, 0x4014, 7)] }
        (fun t => (t.reg 1, t.mod, t.pc)) =
      some (7, 0, 0x101) := by decide

/-- V44 of spec/95: MMP 0.X7,R0 (R186 ProgPage constant 0 here). -/
theorem test_V44_mmp :
    after 0xF011 { State.reset with x := #v[0, 0, 0, 0, 0, 0, 0, 0x31], pc := 0x100, prog := 0x2000, level := 1, psw := 0, mem := words [(0, 0x2031, 0xFF)] }
        (fun t => (t.reg 0, t.pc)) =
      some (0xFF, 0x101) := by decide

/-- V45 of spec/95: MOVM X4,X5 (R187). -/
theorem test_V45_movm :
    after 0x4DE9 { State.reset with x := #v[0, 0, 0, 0, 0x10, 0x20, 0, 0], pc := 0x100, mod := 3, modified := true, psw := 0, mem := words [(0, 0x10, 1), (0, 0x11, 2), (0, 0x12, 3), (0, 0x13, 4)] }
        (fun t => (t.reg 4, t.reg 5, t.data 0x20, t.pc)) =
      some (0x13, 0x23, 1, 0x101) := by decide

/-- V47 of spec/95: PUT R1,X5 (R188). -/
theorem test_V47_put :
    after 0x9DE9 { State.reset with x := #v[0, 0xABCD, 0, 0, 0, 0x30, 0, 0], pc := 0x100, mod := 0xF0, modified := true, psw := 0, mem := words [(0, 0x30, 0x1234)] }
        (fun t => (t.data 0x30, t.mod, t.pc)) =
      some (0x12C4, 0, 0x101) := by decide

/-- V50 of spec/95: XCH R0,0.X1 (R189). -/
theorem test_V50_xch :
    after 0x09EE { State.reset with x := #v[0x1111, 0x40, 0, 0, 0, 0, 0, 0], pc := 0x100, psw := 0, mem := words [(0, 0x40, 0x2222)] }
        (fun t => (t.reg 0, t.data 0x40, t.pc)) =
      some (0x2222, 0x1111, 0x101) := by decide

/-- V51 of spec/95: XCH R0,R0 (R189). -/
theorem test_V51_xch :
    after 0x00EE { State.reset with x := #v[0x1111, 0, 0, 0, 0, 0, 0, 0], pc := 0x100, psw := 0 }
        (fun t => t.pc) =
      some 0x101 := by decide

/-- V55 of spec/95: STC 14 (R190). -/
theorem test_V55_stc :
    after 0xEEBE { State.reset with x := #v[0xAAAA, 0xBBBB, 0, 0, 0, 0, 0, 0x100], pc := 0x100, psw := 0 }
        (fun t => (t.reg 7, t.data 0xFE, t.data 0xFF, t.pc)) =
      some (0xFE, 0xAAAA, 0xBBBB, 0x101) := by decide

/-- V57 of spec/95: STC 15 (R190 MOD displaces, x7 not). -/
theorem test_V57_stc :
    after 0xEFBE { State.reset with x := #v[0xAAAA, 0, 0, 0, 0, 0, 0, 0x100], pc := 0x100, mod := 0x10, modified := true, psw := 0 }
        (fun t => (t.reg 7, t.data 0x10F, t.pc)) =
      some (0xFF, 0xAAAA, 0x101) := by decide

/-- V62 of spec/95: UNS 14 (R191 uns_advance = CNT). -/
theorem test_V62_uns :
    after 0xAEBE { State.reset with x := #v[0, 0, 0, 0, 0, 0, 0, 0xFE], pc := 0x100, psw := 0, mem := words [(0, 0xFE, 0xAAAA), (0, 0xFF, 0xBBBB)] }
        (fun t => (t.reg 0, t.reg 1, t.reg 7, t.pc)) =
      some (0xAAAA, 0xBBBB, 0xFF, 0x101) := by decide

/-- V63 of spec/95: UNS 8 (R191 x7 loaded last). -/
theorem test_V63_uns :
    after 0xA8BE { State.reset with x := #v[0, 0, 0, 0, 0, 0, 0, 0xF8], pc := 0x100, psw := 0, mem := words [(0, 0xF8, 0xB0), (0, 0xF9, 0xB1), (0, 0xFA, 0xB2), (0, 0xFB, 0xB3), (0, 0xFC, 0xB4), (0, 0xFD, 0xB5), (0, 0xFE, 0xB6), (0, 0xFF, 0x123)] }
        (fun t => (t.reg 0, t.reg 1, t.reg 2, t.pc)) =
      some (0xB0, 0xB1, 0xB2, 0x101) := by decide

/-- V70 of spec/95: JMP +0 (R201). -/
theorem test_V70_jmp :
    after 0x00DC { State.reset with pc := 0x100, psw := 0 }
        (fun t => t.pc) =
      some 0x101 := by decide

/-- V72 of spec/95: JMP +255 (R201 pc wraps). -/
theorem test_V72_jmp :
    after 0xFFDC { State.reset with pc := 0xFFF0, psw := 0 }
        (fun t => t.pc) =
      some 0xF0 := by decide

/-- V82 of spec/95: JMPI 3.X4 (R204). -/
theorem test_V82_jmpi :
    after 0x0312 { State.reset with x := #v[0, 0, 0, 0, 0x10, 0, 0, 0], pc := 0x100, base := 0x2000, prog := 0x1000, psw := 0, mem := words [(0, 0x2013, 0x55)] }
        (fun t => t.pc) =
      some 0x1055 := by decide

/-- V83 of spec/95: JMPI B8 #10 (R204). -/
theorem test_V83_jmpi :
    after 0x10E7 { State.reset with pc := 0x100, base := 0x2000, prog := 0x1000, psw := 0, mem := words [(0, 0x2010, 0x66)] }
        (fun t => t.pc) =
      some 0x1066 := by decide

/-- V86 of spec/95: JPZI 3 (R205 operand word read from PROG_USER, which is PROG_CUR here (ProgPage constant)). -/
theorem test_V86_jpzi :
    after 0x0317 { State.reset with pc := 0x850, prog := 0x800, psw := 1, mem := words [(0, 0x803, 0x100)] }
        (fun t => (t.reg 4, t.level, t.psw &&& 0xFF0F, t.pc)) =
      some (0x51, 0x8000, 0, 0x900) := by decide

/-- V87 of spec/95: RPZ 0.X4 (R206). -/
theorem test_V87_rpz :
    after 0x00A7 { State.reset with x := #v[0, 0, 0, 0, 0x51, 0, 0, 0], pc := 0x100, prog := 0x800, level := 0x8000, psw := 0 }
        (fun t => (t.level, t.psw &&& 0xFF0F, t.pc)) =
      some (0, 1, 0x851) := by decide

/-- V89 of spec/95: JON R2,+3 (R207). -/
theorem test_V89_jon :
    after 0xA3F0 { State.reset with x := #v[0, 0, 5, 0, 0, 0, 0, 0], pc := 0x40, psw := 0 }
        (fun t => t.pc) =
      some 0x44 := by decide

/-- V93 of spec/95: JOZ R1,-2 (R208). -/
theorem test_V93_joz :
    after 0x92B2 { State.reset with x := #v[0, 0, 0, 0, 0, 0, 0, 0], pc := 0x40, psw := 0 }
        (fun t => t.pc) =
      some 0x3F := by decide

/-- V97 of spec/95: JVN -2 (R209). -/
theorem test_V97_jvn :
    after 0x72BE { State.reset with pc := 0x10, mod := 8, modified := true, psw := 0 }
        (fun t => (t.mod, t.pc)) =
      some (0, 0x17) := by decide

/-- V100 of spec/95: SOB R0,-2 (R210 0 wraps to FFFF, branch taken). -/
theorem test_V100_sob :
    after 0x02C0 { State.reset with x := #v[0, 0, 0, 0, 0, 0, 0, 0], pc := 0x103, psw := 0 }
        (fun t => (t.reg 0, t.pc)) =
      some (0xFFFF, 0x102) := by decide

/-- V110 of spec/95: ADDC -1,R0 (R216). -/
theorem test_V110_addc :
    after 0x01A8 { State.reset with x := #v[5, 0, 0, 0, 0, 0, 0, 0], pc := 0x100, psw := 0 }
        (fun t => (t.reg 0, t.pc)) =
      some (4, 0x101) := by decide

/-- V112 of spec/95: ADDC 1,R1 (R216). -/
theorem test_V112_addc :
    after 0x01C9 { State.reset with x := #v[0, 0x7FFF, 0, 0, 0, 0, 0, 0], pc := 0x100, psw := 0 }
        (fun t => (t.reg 1, t.pc)) =
      some (0x8000, 0x101) := by decide

/-- V115 of spec/95: ADD R2,R6 (R217). -/
theorem test_V115_add :
    after 0x268A { State.reset with x := #v[0, 0, 3, 0, 0, 0, 4, 0], pc := 0x100, psw := 0 }
        (fun t => (t.reg 6, t.pc)) =
      some (7, 0x101) := by decide

/-- V117 of spec/95: ADD R0,R1 (R217 old C not used). -/
theorem test_V117_add :
    after 0x018A { State.reset with x := #v[0x7FFF, 1, 0, 0, 0, 0, 0, 0], pc := 0x100, psw := 0x10 }
        (fun t => (t.reg 1, t.pc)) =
      some (0x8000, 0x101) := by decide

/-- V126 of spec/95: ADDU R1,R3 (R218). -/
theorem test_V126_addu :
    after 0x13D4 { State.reset with x := #v[0, 0x7FFF, 0, 0, 0, 0, 0, 0], pc := 0x100, psw := 0x10 }
        (fun t => (t.reg 3, t.pc)) =
      some (0x8000, 0x101) := by decide

/-- V127 of spec/95: SUB R0,R1 (R219). -/
theorem test_V127_sub :
    after 0x018B { State.reset with x := #v[3, 0xA, 0, 0, 0, 0, 0, 0], pc := 0x100, psw := 0 }
        (fun t => (t.reg 1, t.pc)) =
      some (7, 0x101) := by decide

/-- V131 of spec/95: SUB R0,R1 (R219 0 - (-32768) overflows). -/
theorem test_V131_sub :
    after 0x018B { State.reset with x := #v[0x8000, 0, 0, 0, 0, 0, 0, 0], pc := 0x100, psw := 0 }
        (fun t => (t.reg 1, t.pc)) =
      some (0x8000, 0x101) := by decide

/-- V132 of spec/95: SUBU R2,R3 (R220). -/
theorem test_V132_subu :
    after 0x23D5 { State.reset with x := #v[0, 0, 0, 1, 0, 0, 0, 0], pc := 0x100, psw := 0 }
        (fun t => (t.reg 3, t.pc)) =
      some (0, 0x101) := by decide

/-- V135 of spec/95: MUL R1,0.X4 (R221). -/
theorem test_V135_mul :
    after 0x1CEA { State.reset with x := #v[0, 0xFFFE, 0, 0, 0x10, 0, 0, 0], pc := 0x100, psw := 0, mem := words [(0, 0x10, 3), (0, 0x11, 0x5555)] }
        (fun t => (t.data 0x10, t.data 0x11, t.pc)) =
      some (0xFFFA, 0xFFFF, 0x101) := by decide

/-- V137 of spec/95: MUL R1,0.X4 (R221 signed: (-1)(-1) = 1). -/
theorem test_V137_mul :
    after 0x1CEA { State.reset with x := #v[0, 0xFFFF, 0, 0, 0x10, 0, 0, 0], pc := 0x100, psw := 0, mem := words [(0, 0x10, 0xFFFF)] }
        (fun t => (t.data 0x10, t.pc)) =
      some (1, 0x101) := by decide

/-- V139 of spec/95: DIV R0,R2 (R222). -/
theorem test_V139_div :
    after 0x02EB { State.reset with x := #v[0xA, 0, 5, 1, 0, 0, 0, 0], pc := 0x100, psw := 0 }
        (fun t => (t.reg 2, t.pc)) =
      some (0x199A, 0x101) := by decide

/-- V141 of spec/95: DIV R0,R2 (R222 unsigned divisor). -/
theorem test_V141_div :
    after 0x02EB { State.reset with x := #v[0xFFFF, 0, 0xFFFF, 0, 0, 0, 0, 0], pc := 0x100, psw := 0 }
        (fun t => (t.reg 2, t.pc)) =
      some (1, 0x101) := by decide

/-- V144 of spec/95: AND R0,R1 (R223). -/
theorem test_V144_and :
    after 0x018C { State.reset with x := #v[0xF0F, 0xFF, 0, 0, 0, 0, 0, 0], pc := 0x100, psw := 0 }
        (fun t => (t.reg 1, t.pc)) =
      some (0xF, 0x101) := by decide

/-- V146 of spec/95: IOR R0,R1 (R224). -/
theorem test_V146_ior :
    after 0x018D { State.reset with x := #v[0xF00, 0xF0, 0, 0, 0, 0, 0, 0], pc := 0x100, psw := 0 }
        (fun t => (t.reg 1, t.pc)) =
      some (0xFF0, 0x101) := by decide

/-- V147 of spec/95: XOR R0,R1 (R225). -/
theorem test_V147_xor :
    after 0x01E8 { State.reset with x := #v[0xFF0, 0xFF, 0, 0, 0, 0, 0, 0], pc := 0x100, psw := 0 }
        (fun t => (t.reg 1, t.pc)) =
      some (0xF0F, 0x101) := by decide

/-- V150 of spec/95: CLR 2.X5 (R226). -/
theorem test_V150_clr :
    after 0x4227 { State.reset with x := #v[0, 0, 0, 0, 0, 0x40, 0, 0], pc := 0x100, psw := 0, mem := words [(0, 0x42, 9)] }
        (fun t => (t.data 0x42, t.pc)) =
      some (0, 0x101) := by decide

/-- V151 of spec/95: DEC 2.X5 (R227 no flags). -/
theorem test_V151_dec :
    after 0x4213 { State.reset with x := #v[0, 0, 0, 0, 0, 0x40, 0, 0], pc := 0x100, psw := 0, mem := words [(0, 0x42, 0)] }
        (fun t => (t.data 0x42, t.pc)) =
      some (0xFFFF, 0x101) := by decide

/-- V152 of spec/95: INC 2.X5 (R228). -/
theorem test_V152_inc :
    after 0x4216 { State.reset with x := #v[0, 0, 0, 0, 0, 0x40, 0, 0], pc := 0x100, psw := 0, mem := words [(0, 0x42, 0xFFFF)] }
        (fun t => (t.data 0x42, t.pc)) =
      some (0, 0x101) := by decide

/-- V154 of spec/95: INV 0.X3 (R229). -/
theorem test_V154_inv :
    after 0x9BBC { State.reset with x := #v[0, 0, 0, 0x30, 0, 0, 0, 0], pc := 0x100, mod := 1, modified := true, psw := 0, mem := words [(0, 0x31, 0xFF)] }
        (fun t => (t.data 0x31, t.mod, t.pc)) =
      some (0xFF00, 0, 0x101) := by decide

/-- V155 of spec/95: NEG R1 (R230). -/
theorem test_V155_neg :
    after 0xF1BC { State.reset with x := #v[0, 1, 0, 0, 0, 0, 0, 0], pc := 0x100, psw := 0 }
        (fun t => (t.reg 1, t.pc)) =
      some (0xFFFF, 0x101) := by decide

/-- V157 of spec/95: SWP R2 (R231). -/
theorem test_V157_swp :
    after 0x62BC { State.reset with x := #v[0, 0, 0x1234, 0, 0, 0, 0, 0], pc := 0x100, psw := 0 }
        (fun t => (t.reg 2, t.pc)) =
      some (0x3412, 0x101) := by decide

/-- V159 of spec/95: DECD R0,R0 (R232 same operand: once). -/
theorem test_V159_decd :
    after 0x088E { State.reset with x := #v[5, 0, 0, 0, 0, 0, 0, 0], pc := 0x100, psw := 0 }
        (fun t => (t.reg 0, t.pc)) =
      some (4, 0x101) := by decide

/-- V161 of spec/95: INCD R4,R5 (R233). -/
theorem test_V161_incd :
    after 0x458E { State.reset with x := #v[0, 0, 0, 0, 0x10, 0xFFFF, 0, 0], pc := 0x100, psw := 0 }
        (fun t => (t.reg 4, t.reg 5, t.pc)) =
      some (0x11, 0, 0x101) := by decide

/-- V163 of spec/95: DDCP R7 (R234). -/
theorem test_V163_ddcp :
    after 0x37BC { State.reset with x := #v[1, 0, 0, 0, 0, 0, 0, 2], pc := 0x100, psw := 0 }
        (fun t => (t.reg 0, t.reg 7, t.pc)) =
      some (0xFFFF, 0, 0x101) := by decide

/-- V164 of spec/95: DICP R2 (R235). -/
theorem test_V164_dicp :
    after 0x22BC { State.reset with x := #v[0, 0, 0xFFFF, 0x10, 0, 0, 0, 0], pc := 0x100, psw := 0 }
        (fun t => (t.reg 2, t.reg 3, t.pc)) =
      some (1, 0x12, 0x101) := by decide

/-- V166 of spec/95: SXT X5,7 (R236). -/
theorem test_V166_sxt :
    after 0x5767 { State.reset with x := #v[0, 0, 0, 0, 0, 0x30, 0, 0], pc := 0x100, psw := 0, mem := words [(0, 0x30, 0x1280)] }
        (fun t => (t.data 0x30, t.pc)) =
      some (0xFF80, 0x101) := by decide

/-- V170 of spec/95: SXT X5,7 (R236 bit 3 from MOD). -/
theorem test_V170_sxt :
    after 0x5767 { State.reset with x := #v[0, 0, 0, 0, 0, 0x30, 0, 0], pc := 0x100, mod := 0x13, modified := true, psw := 0, mem := words [(0, 0x30, 0x1278)] }
        (fun t => (t.data 0x30, t.mod, t.pc)) =
      some (0xFFF8, 0, 0x101) := by decide

/-- V171 of spec/95: XTR R2,4 (R237). -/
theorem test_V171_xtr :
    after 0x24EC { State.reset with x := #v[0, 0, 0xABCD, 0, 0, 0, 0, 0], pc := 0x100, psw := 0 }
        (fun t => (t.reg 2, t.pc)) =
      some (0xD, 0x101) := by decide

/-- V180 of spec/95: SBN R1,3 (R254). -/
theorem test_V180_sbn :
    after 0x13F0 { State.reset with x := #v[0, 8, 0, 0, 0, 0, 0, 0], pc := 0x20, psw := 0 }
        (fun t => t.pc) =
      some 0x22 := by decide

/-- V182 of spec/95: SBN R1,2 (R254 bit 3 from MOD). -/
theorem test_V182_sbn :
    after 0x12F0 { State.reset with x := #v[0, 8, 0, 0, 0, 0, 0, 0], pc := 0x20, mod := 0x13, modified := true, psw := 0 }
        (fun t => (t.mod, t.pc)) =
      some (0, 0x22) := by decide

/-- V184 of spec/95: SBZ R1,3 (R255). -/
theorem test_V184_sbz :
    after 0x13F2 { State.reset with x := #v[0, 8, 0, 0, 0, 0, 0, 0], pc := 0x20, psw := 0 }
        (fun t => t.pc) =
      some 0x21 := by decide

/-- V186 of spec/95: SBNP R1,15 (R256). -/
theorem test_V186_sbnp :
    after 0x1FB0 { State.reset with x := #v[0, 0x8000, 0, 0, 0, 0, 0, 0], pc := 0x20, psw := 0 }
        (fun t => t.pc) =
      some 0x23 := by decide

/-- V187 of spec/95: SBZP X4,0 (R257). -/
theorem test_V187_sbzp :
    after 0x40B3 { State.reset with x := #v[0, 0, 0, 0, 0x30, 0, 0, 0], pc := 0x20, psw := 0, mem := words [(0, 0x30, 0xFFFE)] }
        (fun t => t.pc) =
      some 0x23 := by decide

/-- V189 of spec/95: SON 1.X4 (R258 reads DATA[0032] = 0). -/
theorem test_V189_son :
    after 0x013B { State.reset with x := #v[0, 0, 0, 0, 0x30, 0, 0, 0], pc := 0x20, mod := 1, modified := true, psw := 0, mem := words [(0, 0x31, 7)] }
        (fun t => (t.mod, t.pc)) =
      some (0, 0x21) := by decide

/-- V190 of spec/95: SOZ 1.X4 (R259). -/
theorem test_V190_soz :
    after 0x013A { State.reset with x := #v[0, 0, 0, 0, 0x30, 0, 0, 0], pc := 0x20, psw := 0, mem := words [(0, 0x31, 7)] }
        (fun t => t.pc) =
      some 0x21 := by decide

/-- V191 of spec/95: SONP 1.X4 (R260). -/
theorem test_V191_sonp :
    after 0x0139 { State.reset with x := #v[0, 0, 0, 0, 0x30, 0, 0, 0], pc := 0x20, psw := 0, mem := words [(0, 0x31, 7)] }
        (fun t => t.pc) =
      some 0x23 := by decide

/-- V192 of spec/95: SOZP 1.X4 (R261). -/
theorem test_V192_sozp :
    after 0x0138 { State.reset with x := #v[0, 0, 0, 0, 0x30, 0, 0, 0], pc := 0x20, psw := 0 }
        (fun t => t.pc) =
      some 0x23 := by decide

/-- V193 of spec/95: SEQ R1,7 (R262). -/
theorem test_V193_seq :
    after 0x977E { State.reset with x := #v[0, 7, 0, 0, 0, 0, 0, 0], pc := 0x20, psw := 0 }
        (fun t => t.pc) =
      some 0x22 := by decide

/-- V195 of spec/95: SEQ R1,5 (R262). -/
theorem test_V195_seq :
    after 0x957E { State.reset with x := #v[0, 0x105, 0, 0, 0, 0, 0, 0], pc := 0x20, mod := 0x100, modified := true, psw := 0 }
        (fun t => (t.mod, t.pc)) =
      some (0, 0x22) := by decide

/-- V213 of spec/95: SNE R0,R1 (R263 pc wraps). -/
theorem test_V213_sne :
    after 0x01F8 { State.reset with x := #v[1, 2, 0, 0, 0, 0, 0, 0], pc := 0xFFFF, psw := 0 }
        (fun t => t.pc) =
      some 1 := by decide

/-- V201 of spec/95: SGE R0,R1 (R264 exact compare, no overflow effect). -/
theorem test_V201_sge :
    after 0x01F6 { State.reset with x := #v[0x7FFF, 0x8000, 0, 0, 0, 0, 0, 0], pc := 0x20, psw := 0 }
        (fun t => t.pc) =
      some 0x22 := by decide

/-- V202 of spec/95: SLT R2,0 (R265). -/
theorem test_V202_slt :
    after 0xA040 { State.reset with x := #v[0, 0, 0xFFFF, 0, 0, 0, 0, 0], pc := 0x20, psw := 0 }
        (fun t => t.pc) =
      some 0x22 := by decide

/-- V203 of spec/95: SHS R2,1 (R266). -/
theorem test_V203_shs :
    after 0xA146 { State.reset with x := #v[0, 0, 0xFFFF, 0, 0, 0, 0, 0], pc := 0x20, psw := 0 }
        (fun t => t.pc) =
      some 0x22 := by decide

/-- V204 of spec/95: SLO R0,R1 (R267). -/
theorem test_V204_slo :
    after 0x01F5 { State.reset with x := #v[3, 0x8000, 0, 0, 0, 0, 0, 0], pc := 0x20, psw := 0 }
        (fun t => t.pc) =
      some 0x22 := by decide

/-- V207 of spec/95: SEQP R1,7 (R268). -/
theorem test_V207_seqp :
    after 0x973E { State.reset with x := #v[0, 7, 0, 0, 0, 0, 0, 0], pc := 0x20, psw := 0 }
        (fun t => t.pc) =
      some 0x23 := by decide

/-- V208 of spec/95: SNEP R1,7 (R269). -/
theorem test_V208_snep :
    after 0x973C { State.reset with x := #v[0, 7, 0, 0, 0, 0, 0, 0], pc := 0x20, psw := 0 }
        (fun t => t.pc) =
      some 0x21 := by decide

/-- V209 of spec/95: SGEP R2,5 (R270). -/
theorem test_V209_sgep :
    after 0xA502 { State.reset with x := #v[0, 0, 5, 0, 0, 0, 0, 0], pc := 0x20, psw := 0 }
        (fun t => t.pc) =
      some 0x23 := by decide

/-- V210 of spec/95: SLTP R2,0 (R271). -/
theorem test_V210_sltp :
    after 0xA000 { State.reset with x := #v[0, 0, 0x8000, 0, 0, 0, 0, 0], pc := 0x20, psw := 0 }
        (fun t => t.pc) =
      some 0x23 := by decide

/-- V211 of spec/95: SHSP R2,1 (R272). -/
theorem test_V211_shsp :
    after 0xA106 { State.reset with x := #v[0, 0, 0, 0, 0, 0, 0, 0], pc := 0x20, psw := 0 }
        (fun t => t.pc) =
      some 0x21 := by decide

/-- V212 of spec/95: SLOP R2,1 (R273). -/
theorem test_V212_slop :
    after 0xA104 { State.reset with x := #v[0, 0, 0, 0, 0, 0, 0, 0], pc := 0x20, psw := 0 }
        (fun t => t.pc) =
      some 0x23 := by decide

/-- V220 of spec/95: SLC R1,1 (R281). -/
theorem test_V220_slc :
    after 0x91A2 { State.reset with x := #v[0, 0x8001, 0, 0, 0, 0, 0, 0], pc := 0x100, psw := 0 }
        (fun t => (t.reg 1, t.pc)) =
      some (3, 0x101) := by decide

/-- V222 of spec/95: SRA R2,2 (R282). -/
theorem test_V222_sra :
    after 0xA226 { State.reset with x := #v[0, 0, 0x8004, 0, 0, 0, 0, 0], pc := 0x100, psw := 0 }
        (fun t => (t.reg 2, t.pc)) =
      some (0xE001, 0x101) := by decide

/-- V225 of spec/95: SLL R1,4 (R283). -/
theorem test_V225_sll :
    after 0x94A0 { State.reset with x := #v[0, 0xFF, 0, 0, 0, 0, 0, 0], pc := 0x100, psw := 0 }
        (fun t => (t.reg 1, t.pc)) =
      some (0xFF0, 0x101) := by decide

/-- V227 of spec/95: SLL R1,9 (R283 3 shifts from MOD). -/
theorem test_V227_sll :
    after 0x99A0 { State.reset with x := #v[0, 1, 0, 0, 0, 0, 0, 0], pc := 0x100, mod := 0x23, modified := true, psw := 0 }
        (fun t => (t.reg 1, t.mod, t.pc)) =
      some (8, 0, 0x101) := by decide

/-- V229 of spec/95: SRL R3,2 (R284). -/
theorem test_V229_srl :
    after 0xB224 { State.reset with x := #v[0, 0, 0, 0x8004, 0, 0, 0, 0], pc := 0x100, psw := 0 }
        (fun t => (t.reg 3, t.pc)) =
      some (0x2001, 0x101) := by decide

/-- V231 of spec/95: SLLL R2,1 (R285). -/
theorem test_V231_slll :
    after 0x21A1 { State.reset with x := #v[0, 0, 0x8001, 0, 0, 0, 0, 0], pc := 0x100, psw := 0 }
        (fun t => (t.reg 2, t.reg 3, t.pc)) =
      some (2, 1, 0x101) := by decide

/-- V232 of spec/95: SLLL R2,0 (R285 16 shifts). -/
theorem test_V232_slll :
    after 0x20A1 { State.reset with x := #v[0, 0, 0x1234, 0x5678, 0, 0, 0, 0], pc := 0x100, psw := 0 }
        (fun t => (t.reg 2, t.reg 3, t.pc)) =
      some (0, 0x1234, 0x101) := by decide

/-- V235 of spec/95: SRLL R2,1 (R286). -/
theorem test_V235_srll :
    after 0x2125 { State.reset with x := #v[0, 0, 0, 1, 0, 0, 0, 0], pc := 0x100, psw := 0 }
        (fun t => (t.reg 2, t.reg 3, t.pc)) =
      some (0x8000, 0, 0x101) := by decide

/-- V240 of spec/95: CLRS R0,R1 (R291). -/
theorem test_V240_clrs :
    after 0x0188 { State.reset with x := #v[0xFFFF, 0x13, 0, 0, 0, 0, 0, 0], pc := 0x100, psw := 0 }
        (fun t => (t.reg 0, t.pc)) =
      some (0xFFF7, 0x101) := by decide

/-- V241 of spec/95: CLRS R0,R0 (R291 bit number 15 from the old value). -/
theorem test_V241_clrs :
    after 0x0088 { State.reset with x := #v[0xFFFF, 0, 0, 0, 0, 0, 0, 0], pc := 0x100, psw := 0 }
        (fun t => (t.reg 0, t.pc)) =
      some (0x7FFF, 0x101) := by decide

/-- V244 of spec/95: SETS R2,15 (R292). -/
theorem test_V244_sets :
    after 0x2FA3 { State.reset with pc := 0x100, psw := 0 }
        (fun t => (t.reg 2, t.pc)) =
      some (0x8000, 0x101) := by decide

/-- V247 of spec/95: SETS X4,3 (R292 MOD ignored, cleared). -/
theorem test_V247_sets :
    after 0x43E3 { State.reset with x := #v[0, 0, 0, 0, 0x30, 0, 0, 0], pc := 0x100, mod := 5, modified := true, psw := 0 }
        (fun t => (t.data 0x30, t.mod, t.pc)) =
      some (8, 0, 0x101) := by decide

/-- V249 of spec/95: RELS X5,2 (R293 MOD kept). -/
theorem test_V249_rels :
    after 0x5211 { State.reset with x := #v[0, 0, 0, 0, 0, 0x30, 0, 0], pc := 0x100, mod := 9, modified := true, psw := 0, mem := words [(0, 0x30, 5)] }
        (fun t => (t.data 0x30, t.pc)) =
      some (1, 0x101) := by decide

/-- V251 of spec/95: RESS X5,0 (R294 busy: next instruction). -/
theorem test_V251_ress :
    after 0x5051 { State.reset with x := #v[0, 0, 0, 0, 0, 0x30, 0, 0], pc := 0x40, psw := 0, mem := words [(0, 0x30, 1)] }
        (fun t => t.pc) =
      some 0x41 := by decide

/-- V260 of spec/95: SIO R0,R3 (R301). -/
theorem test_V260_sio :
    after 0x3896 { State.reset with x := #v[0, 0, 0, 0x1045, 0, 0, 0, 0], pc := 0x100, psw := 0, ioReplies := [⟨.sio, 0x1045, .answered 0xA0⟩] }
        (fun t => (t.reg 0, t.pc)) =
      some (0xA0, 0x101) := by decide

/-- V261 of spec/95: CIO R1,R3 (R302). -/
theorem test_V261_cio :
    after 0xB996 { State.reset with x := #v[0, 2, 0, 0x1045, 0, 0, 0, 0], pc := 0x100, psw := 0, ioReplies := [⟨.cio, 0x1045, .answered 0⟩] }
        (fun t => t.pc) =
      some 0x101 := by decide

/-- V262 of spec/95: RIO R2,R4 (R303). -/
theorem test_V262_rio :
    after 0x4A97 { State.reset with x := #v[0, 0, 0, 0, 7, 0, 0, 0], pc := 0x100, mod := 0x40, modified := true, psw := 0, ioReplies := [⟨.rio, 0x47, .answered 0x55⟩] }
        (fun t => (t.reg 2, t.mod, t.pc)) =
      some (0x55, 0, 0x101) := by decide

/-- V264 of spec/95: WIO X5,R4 (R304). -/
theorem test_V264_wio :
    after 0xCDD7 { State.reset with x := #v[0, 0, 0, 0, 7, 0x20, 0, 0], pc := 0x100, psw := 0, mem := words [(0, 0x20, 0xCAFE)], ioReplies := [⟨.wio, 7, .answered 0⟩] }
        (fun t => t.pc) =
      some 0x101 := by decide

/-- V270 of spec/95: LDS R2 (R311). -/
theorem test_V270_lds :
    after 0xE2BC { State.reset with x := #v[0, 0, 0xC00D, 0, 0, 0, 0, 0], pc := 0x100, psw := 0 }
        (fun t => (t.umap, t.psw &&& 0xFF0F, t.pc)) =
      some (3, 0xC00D, 0x101) := by decide

/-- V271 of spec/95: SLS R2 (R312 flag bits 5:4 loaded; UMAP[1:0] <- 0). -/
theorem test_V271_sls :
    after 0x02BD { State.reset with x := #v[0, 0, 0x30, 0, 0, 0, 0, 0], pc := 0x100, umap := 0x503, psw := 0 }
        (fun t => (t.umap, t.pc)) =
      some (0x500, 0x101) := by decide

/-- V273 of spec/95: SVS 0.X5 (R313). -/
theorem test_V273_svs :
    after 0xDDBC { State.reset with x := #v[0, 0, 0, 0, 0, 0x30, 0, 0], pc := 0x100, mod := 1, modified := true, psw := 0x4011 }
        (fun t => (t.data 0x31, t.mod, t.pc)) =
      some (0x4011, 0, 0x101) := by decide

/-- V274 of spec/95: LDT R1 (R315). -/
theorem test_V274_ldt :
    after 0x51BC { State.reset with x := #v[0, 0x64, 0, 0, 0, 0, 0, 0], pc := 0x100, psw := 0 }
        (fun t => (t.timer, t.pc)) =
      some (0x64, 0x101) := by decide

/-- V275 of spec/95: SVT R2 (R316). -/
theorem test_V275_svt :
    after 0xC2BC { State.reset with pc := 0x100, timer := 0x64, psw := 0 }
        (fun t => (t.reg 2, t.pc)) =
      some (0x64, 0x101) := by decide

/-- V276 of spec/95: LDM 0 (R317). -/
theorem test_V276_ldm :
    after 0xD0BE { State.reset with pc := 0x100, psw := 0xC011 }
        (fun t => (t.psw &&& 0xFF0F, t.pc)) =
      some (1, 0x101) := by decide

/-- V279 of spec/95: SVP 2 (R318 level counter not 0: BOUND not stored). -/
theorem test_V279_svp :
    after 0x22BE { State.reset with pc := 0x200, base := 0x1000, bound := 0x77, level := 1, psw := 0 }
        (fun t => (t.data 0xFFE, t.data 0x1008, t.data 0x100B, t.pc)) =
      some (1, 0x1000, 0x203, 0x201) := by decide

/-- V280 of spec/95: LBR (R319). -/
theorem test_V280_lbr :
    after 0xB1BC { State.reset with pc := 0x100, base := 0x100, psw := 0, mem := words [(0, 0xFF, 0x3FFF)] }
        (fun t => (t.bound, t.pc)) =
      some (0x3FFF, 0x101) := by decide

/-- V281 of spec/95: SVL R0 (R320). -/
theorem test_V281_svl :
    after 0x50BD { State.reset with pc := 0x100, level := 0x8000, psw := 0 }
        (fun t => (t.reg 0, t.pc)) =
      some (0x8000, 0x101) := by decide

/-- V282 of spec/95: LDL R3 (R321). -/
theorem test_V282_ldl :
    after 0x83BD { State.reset with x := #v[0, 0, 0, 0x8001, 0, 0, 0, 0], pc := 0x100, level := 5, psw := 0 }
        (fun t => (t.level, t.pc)) =
      some (0x8001, 0x101) := by decide

/-- V288 of spec/95: MON #80 (R325). -/
theorem test_V288_mon :
    after 0x80A6 { State.reset with pc := 0x850, prog := 0x800, psw := 1, mem := words [(0, 0x80, 0x2000)] }
        (fun t => (t.reg 7, t.bound, t.level, t.pc)) =
      some (0x51, 0xFFFF, 1, 0x2000) := by decide

/-- V289 of spec/95: MON 5 (R325). -/
theorem test_V289_mon :
    after 0x05A6 { State.reset with pc := 0x850, prog := 0x800, psw := 1 }
        (fun t => (t.reg 7, t.bound, t.level, t.pc)) =
      some (0x51, 0xFFFF, 1, 0x3F) := by decide

/-- V292 of spec/95: RTM 0.X7 (R327). -/
theorem test_V292_rtm :
    after 0xC0E6 { State.reset with x := #v[0, 0, 0, 0, 0, 0, 0, 0x51], pc := 0x100, base := 0x100, prog := 0x800, level := 1, psw := 0, mem := words [(0, 0xFF, 0x1234)] }
        (fun t => (t.bound, t.level, t.psw &&& 0xFF0F, t.pc)) =
      some (0x1234, 0, 1, 0x851) := by decide

/-- V295 of spec/95: RTMI 7 (R328). -/
theorem test_V295_rtmi :
    after 0x87E3 { State.reset with pc := 0x100, base := 0x100, prog := 0x800, level := 1, psw := 0, mem := words [(0, 0x107, 0x51), (0, 0xFF, 0x4000)] }
        (fun t => (t.bound, t.level, t.psw &&& 0xFF0F, t.pc)) =
      some (0x4000, 0, 1, 0x851) := by decide

/-- V296 of spec/95: CPU R1 (R329). -/
theorem test_V296_cpu :
    after 0x61BE { State.reset with x := #v[0, 4, 0, 0, 0, 0, 0, 0], pc := 0x100, psw := 0 }
        (fun t => t.pc) =
      some 0x101 := by decide

/-- V298 of spec/95: CAE (R332). -/
theorem test_V298_cae :
    after 0x80BE { State.reset with pc := 0x100, psw := 0 }
        (fun t => t.pc) =
      some 0x101 := by decide

/-- V311 of spec/95: AAMOW AX0,AX2,R4 (R355 pointer wraps inside the page). -/
theorem test_V311_aamow :
    after 0x0284 { State.reset with x := #v[0xFFFF, 2, 0x2000, 3, 2, 0, 0, 0], pc := 0x101, psw := 0x1000, mem := words [(2, 0xFFFF, 0xAA), (2, 0, 0xBB)] }
        (fun t => (t.reg 0, t.reg 2, t.reg 4, t.pc)) =
      some (1, 0x2002, 0, 0x103) := by decide

/-- V314 of spec/95: LAMOW X4,AX2,R6 (R356). -/
theorem test_V314_lamow :
    after 0xC286 { State.reset with x := #v[0, 0, 0x2000, 3, 0x10, 0, 1, 0], pc := 0x100, base := 0x100, psw := 0x1000, mem := words [(0, 0x110, 0x7777)] }
        (fun t => (t.reg 2, t.reg 4, t.reg 6, t.pc)) =
      some (0x2001, 0x11, 0, 0x102) := by decide

/-- V315 of spec/95: ALMOW AX2,X4,R6 (R357). -/
theorem test_V315_almow :
    after 0x2C86 { State.reset with x := #v[0, 0, 0x2000, 3, 0x10, 0, 1, 0], pc := 0x100, base := 0x100, psw := 0x1000, mem := words [(3, 0x2000, 0x8888)] }
        (fun t => (t.reg 2, t.reg 4, t.reg 6, t.pc)) =
      some (0x2001, 0x11, 0, 0x102) := by decide

/-- V316 of spec/95: AAMOB ABX0,ABX2,R4 (R358). -/
theorem test_V316_aamob :
    after 0x028C { State.reset with x := #v[0x1000, 0x102, 0x2000, 3, 2, 0, 0, 0], pc := 0x100, psw := 0x1000, mem := words [(2, 0x1000, 0xAB00), (2, 0x1001, 0xCD)] }
        (fun t => (t.reg 0, t.reg 2, t.reg 4, t.pc)) =
      some (0x1001, 0x2001, 0, 0x102) := by decide

/-- V317 of spec/95: LAMOB BX4,ABX2,R6 (R359 source byte 2*100+2*10+1 = 221: high byte of DATA[0110]). -/
theorem test_V317_lamob :
    after 0xC28E { State.reset with x := #v[0, 0, 0x2000, 3, 0x10, 0x100, 1, 0], pc := 0x100, base := 0x100, psw := 0x1000, mem := words [(0, 0x110, 0xABCD)] }
        (fun t => (t.reg 3, t.reg 4, t.reg 5, t.pc)) =
      some (0x103, 0x11, 0, 0x102) := by decide

/-- V318 of spec/95: ALMOB ABX2,BX4,R6 (R360). -/
theorem test_V318_almob :
    after 0x2C8E { State.reset with x := #v[0, 0, 0x2000, 0x103, 0x10, 0, 1, 0], pc := 0x100, base := 0x100, psw := 0x1000, mem := words [(3, 0x2000, 0xABCD), (0, 0x110, 0x1122)] }
        (fun t => (t.reg 2, t.reg 3, t.reg 5, t.pc)) =
      some (0x2001, 3, 0x100, 0x102) := by decide

/-- V319 of spec/95: AMOW AX2,R0 (R361). -/
theorem test_V319_amow :
    after 0x2891 { State.reset with x := #v[0, 0, 0x8000, 0xFF, 0, 0, 0, 0], pc := 0x101, psw := 0x1000, mem := words [(255, 0x8000, 0xBEEF)] }
        (fun t => (t.reg 0, t.psw &&& 0xFF0F, t.pc)) =
      some (0xBEEF, 0, 0x103) := by decide

/-- V323 of spec/95: AMOW AX2,R0 (R361 MOD not added, cleared). -/
theorem test_V323_amow :
    after 0x2891 { State.reset with x := #v[0, 0, 0x8000, 0xFF, 0, 0, 0, 0], pc := 0x101, mod := 7, modified := true, psw := 0x1000, mem := words [(255, 0x8000, 0xBEEF)] }
        (fun t => (t.reg 0, t.psw &&& 0xFF0F, t.pc)) =
      some (0xBEEF, 0, 0x103) := by decide

/-- V324 of spec/95: AMOB ABX2,R0 (R362). -/
theorem test_V324_amob :
    after 0xA891 { State.reset with x := #v[0xFFFF, 0, 0x8000, 0x1FF, 0, 0, 0, 0], pc := 0x100, psw := 0x1000, mem := words [(255, 0x8000, 0xBEEF)] }
        (fun t => (t.reg 0, t.psw &&& 0xFF0F, t.pc)) =
      some (0xBE, 0, 0x102) := by decide

/-- V327 of spec/95: ARESS AX2,3 (R363 busy: loc+2). -/
theorem test_V327_aress :
    after 0x2392 { State.reset with x := #v[0, 0, 0x10, 1, 0, 0, 0, 0], pc := 0x201, psw := 0x1000, mem := words [(1, 0x10, 8)] }
        (fun t => (t.psw &&& 0xFF0F, t.pc)) =
      some (0, 0x203) := by decide

/-- V329 of spec/95: ARELS AX2,3 (R364). -/
theorem test_V329_arels :
    after 0xA392 { State.reset with x := #v[0, 0, 0x10, 1, 0, 0, 0, 0], pc := 0x201, psw := 0x1000, mem := words [(1, 0x10, 0xA)] }
        (fun t => (t.word 1 0x10, t.psw &&& 0xFF0F, t.pc)) =
      some (2, 0, 0x203) := by decide

/-- V332 of spec/95: DRD R1,R3 (R365 MOD joins the device address). -/
theorem test_V332_drd :
    after 0x1393 { State.reset with x := #v[0, 0, 0, 0x1005, 0, 0, 0, 0], pc := 0x10, mod := 0x40, modified := true, psw := 0x1000, ioReplies := [⟨.drd, 0x1045, .answered 0xA0⟩] }
        (fun t => (t.reg 1, t.psw &&& 0xFF0F, t.pc)) =
      some (0xA0, 0, 0x12) := by decide

/-- V333 of spec/95: DWR X1,R3 (R366). -/
theorem test_V333_dwr :
    after 0x9B93 { State.reset with x := #v[0, 0x20, 0, 0x1045, 0, 0, 0, 0], pc := 0x100, psw := 0x1000, mem := words [(0, 0x20, 0xCAFE)], ioReplies := [⟨.dwr, 0x1045, .answered 0⟩] }
        (fun t => (t.psw &&& 0xFF0F, t.pc)) =
      some (0, 0x102) := by decide

/-- V334 of spec/95: RSP R2 (R369). -/
theorem test_V334_rsp :
    after 0x2052 { State.reset with x := #v[0, 0, 0xFFFF, 0, 0, 0, 0, 0], pc := 5, spm := 0x12, psw := 0x1000 }
        (fun t => (t.reg 2, t.psw &&& 0xFF0F, t.pc)) =
      some (0x12, 0, 6) := by decide

/-- V335 of spec/95: WSP R2 (R370). -/
theorem test_V335_wsp :
    after 0xA052 { State.reset with x := #v[0, 0, 0xAB34, 0, 0, 0, 0, 0], pc := 5, psw := 0x1000 }
        (fun t => (t.spm, t.psw &&& 0xFF0F, t.pc)) =
      some (0x34, 0, 6) := by decide

/-- V336 of spec/95: ARED AX2,R0 (R372). -/
theorem test_V336_ared :
    after 0xA053 { State.reset with x := #v[0, 0, 0x10, 1, 0, 0, 0, 0], pc := 5, psw := 0x1000, mem := words [(1, 0x10, 0x5A5A)] }
        (fun t => (t.reg 0, t.psw &&& 0xFF0F, t.pc)) =
      some (0x5A5A, 0, 6) := by decide

/-- V115, V116, V117, V118, V124, V125, V126 of spec/95: result, C and V. -/
theorem test_addCC :
    addCC 4 3 false = ⟨7, false, false⟩ ∧
    addCC 0x8000 0x8000 false = ⟨0, true, true⟩ ∧
    addCC 1 0x7FFF false = ⟨0x8000, false, true⟩ ∧
    addCC 0x4000 0x4000 false = ⟨0x8000, false, true⟩ ∧
    addCC 2 1 true = ⟨4, false, false⟩ ∧
    addCC 0 0xFFFF true = ⟨0, true, false⟩ ∧
    addCC 0 0x7FFF true = ⟨0x8000, false, true⟩ := by decide

/-- V127, V128, V129, V130, V131, V132, V133, V134 of spec/95: result, C and V. -/
theorem test_subCC :
    subCC 0xA 3 true = ⟨7, true, false⟩ ∧
    subCC 0 1 true = ⟨0xFFFF, false, false⟩ ∧
    subCC 0x8000 1 true = ⟨0x7FFF, true, true⟩ ∧
    subCC 0x1234 0x1234 true = ⟨0, true, false⟩ ∧
    subCC 0 0x8000 true = ⟨0x8000, false, true⟩ ∧
    subCC 1 0 false = ⟨0, true, false⟩ ∧
    subCC 1 1 true = ⟨0, true, false⟩ ∧
    subCC 0 0xFFFF false = ⟨0, false, false⟩ := by decide

/-! ### Steps that a vector of one instruction does not show -/

/-- XCU leaves its word for the next step, which runs it at the same location, unmodified (R324): MOVC 2, R1 at DATA[0020]. -/
theorem test_xcu_leaves_its_word :
    after 0x83BC { State.reset with x := #v[0, 0, 0, 0x20, 0, 0, 0, 0], pc := 0x300, mod := 5, modified := true, mem := words [(0, 0x20, 0x0249)] }
        (fun t => (t.instr, t.pc, t.mod)) =
      some (some 0x0249, 0x300, 0) := by decide

theorem test_xcu_word_runs :
    (match step { State.reset with pc := 0x300, instr := some 0x0249 } with
      | .next t => some (t.reg 1, t.pc, t.instr)
      | _ => none) =
      some (2, 0x301, none) := by decide

/-- XCUI goes through the pointer at its operand (R326). -/
theorem test_xcui_leaves_its_word :
    after 0x8BBC { State.reset with x := #v[0, 0, 0, 0x10, 0, 0, 0, 0], pc := 0x100, mem := words [(0, 0x10, 0x40), (0, 0x40, 0x01A8)] }
        (fun t => (t.instr, t.pc)) =
      some (some 0x01A8, 0x100) := by decide

/-- TRP stops with cause 1 (R331, R381). -/
theorem test_trp_stops : exec (.trp 3) State.reset = .fault (.internalInterrupt 1 State.reset) := rfl

/-- ALT: PSW bit 12 set; MOD kept on CPU type 8 and cleared on CPU type 6 (R335). -/
theorem test_alt_type8 :
    (match exec .alt { State.reset with pc := 7, mod := 5, modified := true } with
      | .next t => some (t.psw, t.mod, t.pc)
      | _ => none) =
      some (0x1001, 5, 8) := by decide

theorem test_alt_type6 :
    (match exec .alt { State.reset with pc := 7, mod := 5, modified := true, plat := { platformAtReset with cpu := .type6 } } with
      | .next t => some (t.psw, t.mod, t.pc)
      | _ => none) =
      some (0x1001, 0, 8) := by decide

/-- MRD and MWR on CPU type 7 (R367, R368): the map word at the register plus MOD. -/
theorem test_mrd_type7 :
    (match exec (.mrdR 1 2) { State.reset with x := #v[0, 0, 6, 0, 0, 0, 0, 0], mod := 1, modified := true, psw := 0x1000, mapMem := words [(0, 7, 0xABCD)], plat := { platformAtReset with cpu := .type7 } } with
      | .next t => some (t.reg 1, t.psw, t.mod, t.pc)
      | _ => none) =
      some (0xABCD, 0, 0, 1) := by decide

theorem test_mwr_type7 :
    (match exec (.mwrR 1 2) { State.reset with x := #v[0, 0xABCD, 6, 0, 0, 0, 0, 0], mod := 1, modified := true, psw := 0x1000, plat := { platformAtReset with cpu := .type7 } } with
      | .next t => some (t.mapMem.readWord 7, t.psw, t.pc)
      | _ => none) =
      some (0xABCD, 0, 1) := by decide

/-- ... and on CPU type 8 (R381). -/
theorem test_mrd_type8 : exec (.mrdR 1 2) State.reset = .fault (.internalInterrupt 1 State.reset) := rfl

/-- TST puts the test result in register 0 (R334). -/
theorem test_tst : after 0x83BE State.reset (fun t => (t.reg 0, t.reg 4, t.pc)) = some (0, 0, 1) := by decide

/-! ### Launch and run (R421, R441, U14) -/

/-- MOD not 0 while MODIFIED is false, and semaphore blocking set: refused. PSW bit 12 set: refused unless it is meant so. -/
theorem test_launch_refuses :
    ({ State.reset with mod := 1 } : State).launch false = .refused .launchState ∧
    ({ State.reset with semBlock := true } : State).launch false = .refused .launchState ∧
    ({ State.reset with psw := 0x1001 } : State).launch false = .refused .launchState ∧
    ({ State.reset with psw := 0x1001 } : State).launch true = .next { State.reset with psw := 0x1001 } := ⟨rfl, rfl, rfl, rfl⟩

/-- MOVC 5, R0 at 0 and then the end address 1; the same with a budget of one step; and an empty memory, whose first word is unassigned. -/
theorem test_run_ends :
    (match run false { State.reset with mem := words [(0, 0, 0x0548)], plat := { platformAtReset with endAddress := some 1 } } with
      | .endAddress t => some (t.reg 0, t.pc)
      | _ => none) = some (5, 1) ∧
    (match run false { State.reset with mem := words [(0, 0, 0x0548)], plat := { platformAtReset with stepBudget := 1 } } with
      | .stepBudget t => some (t.reg 0, t.pc)
      | _ => none) = some (5, 1) ∧
    run false State.reset = .fault (.unassignedEncoding 0 State.reset) := by
  refine ⟨?_, ?_, rfl⟩ <;> decide

/-! ### Witnesses: the hypotheses of each statement hold of a concrete state and operands

The states stand at the ends of their ranges, so that address sums wrap. -/

/-- A state in which every transfer goes through. -/
def wit : State :=
  { State.reset with
    x := #v[0xFFFF, 0x0002, 0x8000, 0x0103, 0x0010, 0x0101, 0x0001, 0x0008], pc := 0xFFFF, base := 0xFFF8, prog := 0xFFFC,
    mod := 0xFFFF, modified := true, psw := 0x2001, level := 1, mem := words [(0, 0xFFFF, 0x05E4), (0, 7, 0x0001)] }

/-- A state in which every transfer with page 3 and every device transfer fails. -/
def witFails (k : TransferKind) : State :=
  { wit with
    plat := { platformAtReset with cpu := .type7, badRanges := [⟨.abs 3, 0, 0xFFFF, k⟩, ⟨.abs 1, 0xFFFF, 0xFFFF, k⟩] }
    ioReplies := [⟨.drd, 0x0100, .failed k⟩, ⟨.dwr, 0x0100, .failed k⟩] }

theorem witness_decodeOfEncode :
    (Instr.stcC4 8).wellFormed .type8 = true ∧ (Instr.mrdR 7 7).decodesOn .type8 = true ∧ (Instr.mrdR 7 7).wellFormed .type8 = false := by
  decide

theorem witness_encodeOfDecode :
    decodeFor .type8 false 0xFF48 = some (.movcC8R 0xFF 0) ∧ decodeFor .type7 true 0x1393 = some (.drdR 1 3) := by decide

theorem witness_stepRuns :
    (wit.awaitingNmi = false ∧ wit.instr = none ∧ wit.reaches (.abs wit.progCur) wit.pc ∧
      decodeFor wit.plat.cpu wit.alt (wit.word wit.progCur wit.pc) = some (.modcC8 5)) ∧
    (let s := { wit with instr := some 0x0249 }
     s.awaitingNmi = false ∧ s.instr = some 0x0249 ∧ decodeFor s.plat.cpu false 0x0249 = some (.movcC8R 2 1)) := by
  refine ⟨⟨rfl, rfl, rfl, ?_⟩, rfl, rfl, ?_⟩ <;> decide

theorem witness_stepStops :
    ({ wit with awaitingNmi := true } : State).awaitingNmi = true ∧
    (let s := { wit with plat := { platformAtReset with badRanges := [⟨.abs 0, 0xFFFF, 0xFFFF, .parity⟩] } }
     s.awaitingNmi = false ∧ s.instr = none ∧ transferFailure s.plat (.abs s.progCur) s.pc = some .parity) ∧
    (let s := { wit with mem := words [(0, 0xFFFF, 0x0057)] }
     s.awaitingNmi = false ∧ s.instr = none ∧ s.reaches (.abs s.progCur) s.pc ∧
      decodeFor s.plat.cpu s.alt (s.word s.progCur s.pc) = none) := by
  refine ⟨rfl, ⟨rfl, rfl, ?_⟩, rfl, rfl, rfl, ?_⟩ <;> decide

/-- The last clause of StepStopsBeforeAnInstruction: the one data word of MOV, the last store of SVP, a device without an answer, map memory,
the absolute word of ARSC, and the read of ARED, which a parity error does not stop. -/
theorem witness_failingTransfers :
    (let s := { wit with base := 0, level := 0x8000, x := #v[0, 0, 0, 0, 0, 0, 0, 0], plat := { platformAtReset with badRanges := [⟨.abs 0, 0xFFFF, 0xFFFF, .parity⟩] } }
     s.firstFailure ((Instr.movR true 0 7).transfers s) = some (.parity, .abs 0, 0xFFFF) ∧
     s.firstFailure ((Instr.svp 15).transfers s) = some (.parity, .abs 0, 0xFFFF) ∧
     s.firstFailure ((Instr.sioX 0 7).transfers s) = some (.timeOut, .io, 0xFFFF)) ∧
    (let s := { wit with plat := { platformAtReset with cpu := .type7, badRanges := [⟨.mapMem, 0, 0xFFFF, .parity⟩] } }
     s.firstFailure ((Instr.mwrR 0 7).transfers s) = some (.parity, .mapMem, 7)) ∧
    (∀ k, (witFails k).firstFailure ((Instr.arsc 2 0).transfers (witFails k)) = some (k, .abs 3, 0x8000)) ∧
    (witFails .timeOut).firstFailure ((Instr.ared 2 0).transfers (witFails .timeOut)) = some (.timeOut, .abs 3, 0x8000) ∧
    (witFails .parity).firstFailure ((Instr.ared 2 0).transfers (witFails .parity)) = none := by
  refine ⟨?_, ?_, fun k => ?_, ?_, ?_⟩ <;> try cases k
  all_goals decide

theorem witness_stepKeeps : Invariant wit ∧ ∃ t, step wit = .next t := by
  refine ⟨⟨by decide, by decide, by decide, rfl, by decide⟩, ?_⟩
  have h : step wit = exec (.modcC8 5) wit := rfl
  exact ⟨_, h⟩

/-- A launch state with a step budget of 0, and one that stands at its end address. -/
theorem witness_runKeeps :
    (wit.mem.wf = true ∧ wit.mapMem.wf = true) ∧
    (let s := { wit with mod := 0, modified := false, plat := { platformAtReset with stepBudget := 0 } }
     run false s = .stepBudget s) ∧
    (let s := { wit with mod := 0, modified := false, plat := { platformAtReset with endAddress := some 0xFFFF } }
     run false s = .endAddress s) := by
  decide

/-- A state that R421 rules out, for the last clause of ResetHasTheInvariant. -/
theorem witness_launchRefused : ({ State.reset with mod := 1 } : State).launch false ≠ .next { State.reset with mod := 1 } :=
  fun h => nomatch h

theorem witness_systemRegisters :
    (∃ t, exec (.movcC8R 0xFF 7) wit = .next t) ∧
    (let i := Instr.movcC8R 0xFF 7
     i.loadsProcess = false ∧ i.loadsTimer = false ∧ i.loadsStatus = false ∧ i.changesLevel = false ∧ i.changesBound = false ∧
      i.writesSystemMap = false ∧ i.writesMapMemory = false) := ⟨⟨_, rfl⟩, by decide⟩

theorem witness_arithmeticFlags :
    (∃ t, exec (.movcC8R 0xFF 7) wit = .next t) ∧
    (let i := Instr.movcC8R 0xFF 7
     i.setsFlags = false ∧ i.loadsStatus = false ∧ i.loadsProcess = false) := ⟨⟨_, rfl⟩, by decide⟩

theorem witness_modificationIsCleared :
    ((∃ t, exec (.movcC8R 0xFF 7) wit = .next t) ∧ (Instr.movcC8R 0xFF 7).keepsModification = false ∧ Instr.movcC8R 0xFF 7 ≠ .alt) ∧
    (let s := { wit with plat := { platformAtReset with cpu := .type6 } }
     (∃ t, exec .alt s = .next t) ∧ Instr.alt.keepsModification = false ∧ s.plat.cpu = .type6) :=
  ⟨⟨⟨_, rfl⟩, by decide, by decide⟩, ⟨_, rfl⟩, by decide, rfl⟩

/-- The last displacement of B6 and of B8, each sum past the end of the page. -/
theorem witness_modify :
    wit.dataReaches (wit.base + wit.reg (indexReg 3) + zext (63 : BitVec 6)) ∧ wit.dataReaches (wit.base + zext (255 : BitVec 8)) ∧
    wit.reaches (.abs wit.progCur) (wit.prog + zext (255 : BitVec 8)) ∧ wit.dataReaches (wit.base + wit.reg 7) := ⟨rfl, rfl, rfl, rfl⟩

theorem witness_moveConstant : wit.dataReaches (wit.base + wit.reg 7) := rfl

theorem witness_move :
    wit.dataReaches (wit.base + zext (255 : BitVec 8) + wit.mod) ∧ wit.dataReaches (wit.base + wit.reg 7 + wit.mod) ∧
    wit.dataReaches (wit.base + wit.reg 0) ∧ wit.dataReaches (wit.base + wit.reg (indexReg 3) + zext (63 : BitVec 6) + wit.mod) ∧
    wit.reaches (.abs wit.progCur) (wit.prog + zext (255 : BitVec 8) + wit.mod) ∧
    wit.reaches (.abs wit.progCur) (wit.prog + wit.reg (indexReg 3) + zext (63 : BitVec 6) + wit.mod) := ⟨rfl, rfl, rfl, rfl, rfl, rfl⟩

theorem witness_moveMonitorParameter :
    (wit.level = 1 ∧ wit.reaches (.abs wit.progUser) (wit.prog + wit.reg 7 + wit.mod)) ∧
    (let s := { wit with level := 0x8000 }
     s.level = 0x8000 ∧ s.reaches (.abs s.progUser) (s.prog + s.reg 7 + s.mod)) ∧
    (let s := { wit with level := 0x8001 }
     s.level ≠ 1 ∧ s.level ≠ 0x8000 ∧ s.reaches (.abs s.progSys) (s.prog + s.reg 7 + s.mod)) :=
  ⟨⟨rfl, rfl⟩, ⟨rfl, rfl⟩, by decide, by decide, rfl⟩

theorem witness_moveByteAndMoveLong :
    wit.dataReaches (byteWord ((2 * wit.base.toNat + (wit.reg (indexReg 3)).toNat + (63 : BitVec 6).toNat + 2 * wit.mod.toNat) % 131072)) ∧
    (let a := wit.base + wit.reg (indexReg 3) + zext (63 : BitVec 6)
     wit.dataReaches a ∧ wit.dataReaches (a + 1) ∧ wit.dataReaches (a + wit.mod) ∧ wit.dataReaches (a + wit.mod + 1)) :=
  ⟨rfl, rfl, rfl, rfl, rfl⟩

/-- One word (MOD = 1) and sixteen words (MOD = 0). -/
theorem witness_moveMultiple :
    (∀ s ∈ [{ wit with mod := 1 }, { wit with mod := 0 }], ∀ k < 1 + (s.mod - 1).toNat % 16,
      s.dataReaches (s.base + s.reg 0 + BitVec.ofNat 16 (1 * k)) ∧ s.dataReaches (s.base + s.reg 7 + BitVec.ofNat 16 (1 * k))) := by
  intro s hs k _
  simp only [List.mem_cons, List.not_mem_nil, or_false] at hs
  rcases hs with rfl | rfl <;> exact ⟨rfl, rfl⟩

theorem witness_putAndExchange :
    wit.dataReaches (wit.base + wit.reg 7) ∧ wit.dataReaches (wit.base + wit.reg 0) ∧ wit.dataReaches (wit.base + wit.reg 7 + wit.mod) :=
  ⟨rfl, rfl, rfl⟩

theorem witness_stack :
    wit.dataReaches (wit.base + (wit.reg 0 + 1) + wit.mod) ∧ wit.dataReaches (wit.base + wit.reg 7) ∧
    (∀ c ∈ [(8 : BitVec 4), 15], 8 ≤ c ∧ ∀ k < 16 - c.toNat,
      wit.dataReaches (wit.base + (wit.reg 7 - BitVec.ofNat 16 (16 - c.toNat) + BitVec.ofNat 16 k) + wit.mod)) ∧
    ((0 : BitVec 4) < 8 ∧ (7 : BitVec 4) < 8) := by
  refine ⟨rfl, rfl, fun c hc => ?_, by decide⟩
  simp only [List.mem_cons, List.not_mem_nil, or_false] at hc
  rcases hc with rfl | rfl <;> exact ⟨by decide, fun _ _ => rfl⟩

theorem witness_unstack :
    wit.dataReaches (wit.base + wit.reg 0 + wit.mod) ∧ wit.dataReaches (wit.base + wit.reg 7) ∧
    (∀ c ∈ [(8 : BitVec 4), 15], 8 ≤ c ∧ ∀ k < 16 - c.toNat, wit.dataReaches (wit.base + wit.reg 7 + wit.mod + BitVec.ofNat 16 k)) ∧
    ((0 : BitVec 4) < 8 ∧ (7 : BitVec 4) < 8) := by
  refine ⟨rfl, rfl, fun c hc => ?_, by decide⟩
  simp only [List.mem_cons, List.not_mem_nil, or_false] at hc
  rcases hc with rfl | rfl <;> exact ⟨by decide, fun _ _ => rfl⟩

theorem witness_jumpIndirect :
    wit.dataReaches (wit.base + wit.reg (indexReg 3) + zext (63 : BitVec 6) + wit.mod) ∧
    wit.dataReaches (wit.base + zext (255 : BitVec 8) + wit.mod) ∧
    wit.reaches (.abs wit.progCur) (wit.prog + zext (255 : BitVec 8) + wit.mod) := ⟨rfl, rfl, rfl⟩

theorem witness_pageZero : wit.reaches (.abs wit.progUser) (wit.prog + zext (255 : BitVec 8) + wit.mod) := rfl

theorem witness_conditionalJumps :
    (let s := { wit with mod := 0, modified := false }
     s.modified = false ∧ s.dataReaches (s.base + s.reg 7) ∧ s.reg 7 ≠ 0 ∧ s.data (s.base + s.reg 7) = 0) ∧
    (wit.modified = true ∧ Instr.jonRL4 0 15 ∈ [Instr.jonRL4 0 15, .jonRLn4 0 15, .jonXL4 0 15, .jonXLn4 0 15, .jozRL4 0 15, .jozRLn4 0 15,
      .jozXL4 0 15, .jozXLn4 0 15]) := by
  refine ⟨⟨rfl, rfl, ?_, ?_⟩, rfl, ?_⟩ <;> decide

/-- A register and a word of memory as either operand: for AddAddsWithFlags, SubtractSubtractsWithFlags and LogicInstructionsCombineBits. -/
theorem witness_twoOperands :
    wit.placeReaches ((op1 false 0).loc wit) ∧ wit.placeReaches ((op2 false 7).loc wit) ∧
    wit.placeReaches ((op1 true 0).loc wit) ∧ wit.placeReaches ((op2 true 7).loc wit) ∧
    wit.dataReaches (wit.base + wit.reg (indexReg 3) + zext (63 : BitVec 6) + wit.mod) := ⟨trivial, trivial, rfl, rfl, rfl⟩

/-- A product, a quotient, and a division by zero. -/
theorem witness_multiplyAndDivide :
    wit.placeReaches ((op1 false 0).loc wit) ∧ wit.dataReaches (wit.base + wit.reg 7 + wit.mod) ∧
    wit.dataReaches (wit.base + wit.reg 7 + wit.mod + 1) ∧ wit.valueAt ((op1 false 0).loc wit) ≠ 0 ∧
    ({ wit with x := Vector.replicate 8 0 } : State).valueAt ((op1 false 0).loc wit) = 0 := by
  refine ⟨trivial, rfl, rfl, ?_, ?_⟩ <;> decide

theorem witness_oneOperand :
    wit.dataReaches (wit.base + wit.reg (indexReg 3) + zext (63 : BitVec 6) + wit.mod) ∧
    wit.dataReaches (wit.base + wit.reg 7 + wit.mod) ∧ wit.dataReaches (wit.base + wit.reg 7) := ⟨rfl, rfl, rfl⟩

theorem witness_doubleInstructions :
    wit.dataReaches (wit.base + wit.reg 0) ∧ wit.dataReaches (wit.base + wit.reg 7 + wit.mod) ∧
    wit.dataReaches (wit.base + wit.reg 7 + wit.mod + 1) := ⟨rfl, rfl, rfl⟩

/-- For SkipsOnBitAndOnOperand, SkipsOnEquality and SkipsOnOrder. -/
theorem witness_skips :
    wit.dataReaches (wit.base + wit.reg 7) ∧ wit.dataReaches (wit.base + wit.reg (indexReg 3) + zext (63 : BitVec 6) + wit.mod) ∧
    wit.placeReaches ((op1 true 0).loc wit) ∧ wit.placeReaches ((op2 true 7).loc wit) := ⟨rfl, rfl, rfl, rfl⟩

/-- For SingleShiftsShift and LongShiftsShiftAPair. -/
theorem witness_shifts : wit.dataReaches (wit.base + wit.reg 7) ∧ wit.dataReaches (wit.base + wit.reg 7 + 1) := ⟨rfl, rfl⟩

theorem witness_singleBit : wit.placeReaches ((op2 true 7).loc wit) ∧ wit.dataReaches (wit.base + wit.reg 0) := ⟨rfl, rfl⟩

/-- A semaphore bit that is 1 and one that is 0: the word at the address is 0001. -/
theorem witness_releaseAndReserve :
    let s := { wit with mem := words [(0, 0xFFF7, 1)] }
    s.dataReaches (s.base + s.reg 0) ∧ (s.data (s.base + s.reg 0)).getLsbD (0 : BitVec 4).toNat = true ∧
      (s.data (s.base + s.reg 0)).getLsbD (15 : BitVec 4).toNat = false := by
  refine ⟨rfl, ?_, ?_⟩ <;> decide

/-- A device at the register plus MOD, 8 + FFFF = 7, answers each kind of transfer. -/
theorem witness_inputAndOutput :
    let s := { wit with ioReplies := [⟨.rio, 7, .answered 0xFFFF⟩, ⟨.sio, 7, .answered 0xFFFF⟩, ⟨.cio, 7, .answered 0xFFFF⟩, ⟨.wio, 7, .answered 0xFFFF⟩] }
    (s.deviceAnswers .sio (s.reg 7 + s.mod) 0xFFFF ∧ s.deviceAnswers .rio (s.reg 7 + s.mod) 0xFFFF ∧
      s.deviceAnswers .cio (s.reg 7 + s.mod) 0xFFFF ∧ s.deviceAnswers .wio (s.reg 7 + s.mod) 0xFFFF) ∧
    s.dataReaches (s.base + s.reg 0) := by
  refine ⟨⟨⟨rfl, ?_⟩, ⟨rfl, ?_⟩, ⟨rfl, ?_⟩, ⟨rfl, ?_⟩⟩, rfl⟩ <;> decide

/-- For SaveInstructionsSaveARegister, LoadStatusLoadsThePsw, LoadInstructionsLoadARegister and CpuInterruptNotifiesAVector. -/
theorem witness_specialOperand : wit.dataReaches (wit.base + wit.reg 7 + wit.mod) ∧ wit.dataReaches (wit.base - 1) := ⟨rfl, rfl⟩

/-- With a level counter that is not 0 and with one that is 0, at BASE = 0, so that the words before it are at the page's end. -/
theorem witness_saveProcess (level : Word) :
    let s := { wit with base := 0, level := level }
    ∀ a, s.dataReaches (s.base + a) ∧ s.dataReaches (s.base - 2) ∧ s.dataReaches (s.base - 1) := fun _ => ⟨rfl, rfl, rfl⟩

/-- A descriptor at address 0 of page 3, given by registers 6 and 7 and by a pair of words. -/
theorem witness_loadProcess :
    let s := { wit with x := #v[0, 0, 0, 0, 0, 0, 0, 3] }
    ((Loc.reg 6 = .reg 6 ∨ Loc.reg 6 = .data (s.base + s.reg 6 + s.mod)) ∧ s.placeReaches (.reg 6) ∧ s.placeReaches (Loc.reg 6).succ) ∧
    (let l := Loc.data (s.base + s.reg 6 + s.mod)
     (l = .reg 6 ∨ l = .data (s.base + s.reg 6 + s.mod)) ∧ s.placeReaches l ∧ s.placeReaches l.succ) ∧
    (s.reaches (.abs 3) (0 - 2) ∧ s.reaches (.abs 3) (0 - 1) ∧ ∀ n < 14, s.reaches (.abs 3) (0 + BitVec.ofNat 16 n)) ∧
    (s.reaches (.abs (lowByte (s.word 3 9))) (s.word 3 8 + 14) ∧ s.reaches (.abs (lowByte (s.word 3 9))) (s.word 3 8 + 15)) :=
  ⟨⟨Or.inl rfl, trivial, trivial⟩, ⟨Or.inr rfl, rfl, rfl⟩, ⟨rfl, rfl, fun _ _ => rfl⟩, rfl, rfl⟩

theorem witness_execute :
    wit.dataReaches (wit.base + wit.reg 7) ∧ wit.dataReaches (wit.base + wit.reg 7 + wit.mod) ∧
    wit.dataReaches (wit.base + wit.data (wit.base + wit.reg 7 + wit.mod)) ∧
    (let s := { wit with mem := words [(0, 0, 0x0249)] }
     s.awaitingNmi = false ∧ decodeFor s.plat.cpu false (s.data (s.base + s.reg 7)) = some (.movcC8R 2 1)) := by
  refine ⟨rfl, rfl, rfl, rfl, ?_⟩
  decide

/-- MON 63 and MON 64: the last call through location 63 and the first through the page. -/
theorem witness_monitorCall :
    (63 : BitVec 8).toNat < 64 ∧ 64 ≤ (64 : BitVec 8).toNat ∧
    wit.reaches (.abs (progPage wit.plat false (wit.level + 1) wit.umap wit.spm)) (zext (64 : BitVec 8)) := ⟨by decide, by decide, rfl⟩

/-- The level decremented to 0, to 8000 with counter 0, and to a counter that is not 0. -/
theorem witness_monitorReturn :
    (∀ l ∈ [(1 : Word), 0x8001, 2], let s := { wit with level := l }
      ((s.level - 1).toNat % 32768 = 0 → s.dataReaches (s.base - 1)) ∧ s.dataReaches (s.base + zext (63 : BitVec 6) + s.mod)) ∧
    ((1 : Word) - 1 = 0 ∧ ((0x8001 : Word) - 1).toNat % 32768 = 0 ∧ ((2 : Word) - 1).toNat % 32768 ≠ 0) :=
  ⟨fun _ _ => ⟨fun _ => rfl, rfl⟩, by decide⟩

/-- CPU number 15: the descriptor reference is the last pair of page FF, and the descriptor at address 0 of page 3. -/
theorem witness_nonMaskable :
    let s := { wit with mem := words [(0xFF, 0xFFFE, 0), (0xFF, 0xFFFF, 3)], plat := { platformAtReset with cpuNumber := 15 } }
    let r : Word := 0xFFE0 + 2 * zext s.plat.cpuNumber
    r = 0xFFFE ∧ s.reaches (.abs 0xFF) r ∧ s.reaches (.abs 0xFF) (r + 1) ∧ lowByte (s.word 0xFF (r + 1)) = 3 ∧ ∀ a, s.reaches (.abs 3) a := by
  refine ⟨?_, rfl, rfl, ?_, fun _ => rfl⟩ <;> decide

/-- Two states with pointers in registers 0 and 2, a count of 1 and of FFFF in register 6, and a page that does not answer, which the block moves
do not touch. -/
def witMoves : List State :=
  [1, 0xFFFF].map fun n =>
    { wit with
      x := #v[0xFFFF, 0x0002, 0x8000, 0x0103, 0x0010, 0x0101, n, 0x0008]
      plat := { platformAtReset with badRanges := [⟨.abs 0xFF, 0, 0xFFFF, .timeOut⟩] } }

/-- Every page but FF answers there. -/
theorem witMoves_reach (s : State) (h : s ∈ witMoves) (p : Byte) (hp : p ≠ 0xFF) (a : Word) : s.reaches (.abs p) a := by
  have e : s.plat.badRanges = [⟨.abs 0xFF, 0, 0xFFFF, .timeOut⟩] := by
    simp only [witMoves, List.map_cons, List.map_nil, List.mem_cons, List.not_mem_nil, or_false] at h
    rcases h with rfl | rfl <;> rfl
  have hs : (Space.abs 0xFF == Space.abs p) = false := by
    simp only [beq_eq_false_iff_ne, ne_eq, Space.abs.injEq]; exact fun h => hp h.symm
  simp only [State.reaches, transferFailure, e, List.find?_cons, hs, Bool.false_and, List.find?_nil, Option.map_none]

/-- The pages that the moves below touch are not FF. -/
theorem witMoves_pages : ∀ s ∈ witMoves, lowByte (s.reg (0 + 1)) ≠ 0xFF ∧ lowByte (s.reg (2 + 1)) ≠ 0xFF ∧ s.dataPage ≠ 0xFF := by
  simp only [witMoves, List.map_cons, List.map_nil, List.mem_cons, List.not_mem_nil, or_false]
  rintro s (rfl | rfl) <;> decide

/-- Pointers and count in registers that do not overlap. -/
theorem witness_blockMovesOfWords :
    ((0 : RegNum) ≠ 2 ∧ (6 : RegNum) ≠ 0 ∧ (6 : RegNum) ≠ 2) ∧
    ((0 : RegNum) + 1 ≠ 2 ∧ (0 : RegNum) + 1 ≠ 6 ∧ (2 : RegNum) + 1 ≠ 0 ∧ (2 : RegNum) + 1 ≠ 6) ∧
    (∀ s ∈ witMoves, ∀ k < (s.reg 6).toNat, s.reaches (.abs (lowByte (s.reg (0 + 1)))) (s.reg 0 + BitVec.ofNat 16 k) ∧
        s.reaches (.abs (lowByte (s.reg (2 + 1)))) (s.reg 2 + BitVec.ofNat 16 k) ∧
        s.dataReaches (s.base + s.reg 0 + BitVec.ofNat 16 k) ∧ s.dataReaches (s.base + s.reg 2 + BitVec.ofNat 16 k)) :=
  ⟨by decide, by decide, fun s h k _ => ⟨witMoves_reach s h _ (witMoves_pages s h).1 _, witMoves_reach s h _ (witMoves_pages s h).2.1 _,
    witMoves_reach s h _ (witMoves_pages s h).2.2 _, witMoves_reach s h _ (witMoves_pages s h).2.2 _⟩⟩

theorem witness_blockMovesOfBytes :
    [(0 : RegNum), 0 + 1, 2, 2 + 1, 6].Nodup ∧
    (∀ s ∈ witMoves,
      let start := fun f : RegNum => 2 * (s.reg f).toNat + (highByte (s.reg (f + 1))).toNat
      ∀ k < (s.reg 6).toNat, s.reaches (.abs (lowByte (s.reg (0 + 1)))) (byteWord (start 0 + k)) ∧
        s.reaches (.abs (lowByte (s.reg (2 + 1)))) (byteWord (start 2 + k)) ∧
        s.dataReaches (byteWord ((2 * s.base.toNat + start 0 + k) % 131072)) ∧
        s.dataReaches (byteWord ((2 * s.base.toNat + start 2 + k) % 131072))) :=
  ⟨by decide, fun s h k _ => ⟨witMoves_reach s h _ (witMoves_pages s h).1 _, witMoves_reach s h _ (witMoves_pages s h).2.1 _,
    witMoves_reach s h _ (witMoves_pages s h).2.2 _, witMoves_reach s h _ (witMoves_pages s h).2.2 _⟩⟩

/-- The platform of a state is that of every state its units come to. -/
theorem iterate_plat (unit : State → State) (h : ∀ u, (unit u).plat = u.plat) (m : Nat) (s : State) : (unit^[m] s).plat = s.plat := by
  induction m generalizing s with
  | zero => rfl
  | succ m ih => exact (ih (unit s)).trans (h s)

/-- Every unit goes through, whatever registers are shared: for BlockMovesRepeatTheirUnit. -/
theorem witness_blockMovesRepeat (m : Nat) :
    unitFailure (absWord 0) (ownWord 0) ((wordMoved (absWord 0) (ownWord 0) 0 0 0)^[m] wit) = none ∧
    unitFailure (inWord (absByte 0)) (inWord (ownByte 1)) ((byteMoved (absByte 0) (ownByte 1) 0 1 7)^[m] wit) = none := by
  have h1 := iterate_plat (wordMoved (absWord 0) (ownWord 0) 0 0 0) (fun _ => rfl) m wit
  have h2 := iterate_plat (byteMoved (absByte 0) (ownByte 1) 0 1 7) (fun _ => rfl) m wit
  constructor
  · simp only [unitFailure, h1]; rfl
  · simp only [unitFailure, h2]; rfl

theorem witness_absoluteMoves :
    wit.reaches (.abs (lowByte (wit.reg (2 + 1)))) (wit.reg 2) ∧
    wit.reaches (.abs (lowByte (wit.reg (2 + 1)))) (byteWord (2 * (wit.reg 2).toNat + (highByte (wit.reg (2 + 1))).toNat)) := ⟨rfl, rfl⟩

theorem witness_absoluteReserve :
    let s := { wit with mem := words [(3, 0x8000, 1)] }
    s.reaches (.abs (lowByte (s.reg (2 + 1)))) (s.reg 2) ∧
    (s.word (lowByte (s.reg (2 + 1))) (s.reg 2)).getLsbD (0 : BitVec 4).toNat = true ∧
    (s.word (lowByte (s.reg (2 + 1))) (s.reg 2)).getLsbD (15 : BitVec 4).toNat = false := by
  refine ⟨rfl, ?_, ?_⟩ <;> decide

theorem witness_deviceTransfers :
    let s := { wit with ioReplies := [⟨.drd, 7, .answered 0xFFFF⟩, ⟨.dwr, 7, .answered 0⟩] }
    s.deviceAnswers .drd (s.reg 7 + s.mod) 0xFFFF ∧ s.deviceAnswers .dwr (s.reg 7 + s.mod) 0 ∧ s.dataReaches (s.base + s.reg 0) := by
  refine ⟨⟨rfl, ?_⟩, ⟨rfl, ?_⟩, rfl⟩ <;> decide

theorem witness_mapInstructions :
    (wit.plat.cpu = .type8 ∧ Instr.mwrX 0 7 ∈ [Instr.mrdR 0 7, .mrdX 0 7, .mwrR 0 7, .mwrX 0 7]) ∧
    (let s := { wit with plat := { platformAtReset with cpu := .type7 } }
     s.plat.cpu ≠ .type8 ∧ s.reaches .mapMem (s.reg 7 + s.mod) ∧ s.dataReaches (s.base + s.reg 0)) :=
  ⟨⟨rfl, by decide⟩, by decide, rfl, rfl⟩

/-- A word that answers, and one that ARED reads although it has a parity error. -/
theorem witness_errorCorrection :
    wit.reaches (.abs (lowByte (wit.reg (2 + 1)))) (wit.reg 2) ∧
    transferFailure (witFails .parity).plat (.abs (lowByte ((witFails .parity).reg (2 + 1)))) ((witFails .parity).reg 2) ≠ some .timeOut := by
  refine ⟨rfl, ?_⟩
  decide

/-- For either cause: the absolute pair of registers 2 and 3 names page 3, where nothing answers; the own data page answers; a device fails, and
so does the own page at BASE + x[7] = 0. -/
theorem witness_failingTransfer (k : TransferKind) :
    (let s := witFails k
     (s.dataReaches (s.base + 16) ∧ s.dataReaches (s.base + 17)) ∧
     transferFailure s.plat (.abs (lowByte (s.reg (2 + 1)))) (s.reg 2) = some k ∧
     transferFailure s.plat (.abs (lowByte (s.reg (2 + 1)))) (byteWord (2 * (s.reg 2).toNat + (highByte (s.reg (2 + 1))).toNat)) = some k ∧
     (let u := { s with mod := 0x00FF }
      u.reaches .io (u.reg 6 + u.mod) ∧ (takeReply .drd (u.reg 6 + u.mod) u.ioReplies).1 = .failed k ∧
       (takeReply .dwr (u.reg 6 + u.mod) u.ioReplies).1 = .failed k ∧ u.dataReaches (u.base + u.reg 4))) ∧
    (let s := { wit with
      ioReplies := [⟨.drd, 0, .answered 0xFFFF⟩]
      plat := { platformAtReset with badRanges := [⟨.io, 0x0100, 0x0100, k⟩, ⟨.abs 0, 0, 0, k⟩] } }
     (s.dataReaches (s.base + 16) ∧ s.dataReaches (s.base + 17)) ∧
     transferFailure s.plat .io (s.reg 5 + s.mod) = some k ∧ transferFailure s.plat (.abs s.dataPage) (s.base + s.reg 7) = some k ∧
     s.deviceAnswers .drd (s.reg 6 + s.mod) 0xFFFF) := by
  cases k <;> (refine ⟨⟨⟨?_, ?_⟩, ?_, ?_, ?_, ?_, ?_, ?_⟩, ⟨?_, ?_⟩, ?_, ?_, ?_, ?_⟩ <;> rfl)

/-- The first and the last of eight units of a block move fail: the read of the own page, the write of page 3. -/
theorem witness_failingUnit (k : TransferKind) :
    (let s := { wit with plat := { platformAtReset with badRanges := [⟨.abs 0, 0xFFF9, 0xFFF9, k⟩] } }
     let unit := wordMoved (ownWord 6) (absWord 2) 6 2 7
     (s.dataReaches (s.base + 16) ∧ s.dataReaches (s.base + 17)) ∧ CountLasts unit 7 s 0 ∧
     unitFailure (ownWord 6) (absWord 2) (unit^[0] s) = some k) ∧
    (let s := { wit with plat := { platformAtReset with badRanges := [⟨.abs 3, 0x8007, 0x8007, k⟩] } }
     let unit := wordMoved (ownWord 6) (absWord 2) 6 2 7
     (s.dataReaches (s.base + 16) ∧ s.dataReaches (s.base + 17)) ∧ CountLasts unit 7 s 7 ∧
     (∀ j < 7, unitFailure (ownWord 6) (absWord 2) (unit^[j] s) = none) ∧ unitFailure (ownWord 6) (absWord 2) (unit^[7] s) = some k) := by
  unfold CountLasts
  cases k <;> (refine ⟨⟨⟨?_, ?_⟩, ?_, ?_⟩, ⟨?_, ?_⟩, ?_, ?_, ?_⟩ <;> first | rfl | decide)

theorem witness_bytesAndWords : wit.mem.wf = true := by decide

end Sys2Proof.Tests
end

section
/-! PROOF. The family of 40_modify.md (R170 to R175): each instruction ends in `State.modify` of its operand's value, taken at an address to
which MOD is not added. -/

namespace Sys2Proof.Machine

/-! ### The operands: their places and their constants -/

/-- B8 as the modify instructions take it: MOD not added (R129, R170). -/
theorem loc_direct_unmarked (s : State) (k : BitVec 8) : (Operand.mem (.direct k) false).loc s = .data (s.base + zext k) := by
  simp [Operand.loc, DataForm.address, DataForm.offset]

/-- B6.X2 as the modify instructions take it: MOD not added (R130, R170). -/
theorem loc_disp_unmarked (s : State) (x : BitVec 2) (d : BitVec 6) :
    (Operand.mem (.disp x d) false).loc s = .data (s.base + s.reg (indexReg x) + zext d) := by
  simp [Operand.loc, disp_address]

/-- A word shifted left is a multiple of it, modulo 65536: the constants of MOD4 and MOD8 (R172, R173). -/
theorem word_shiftLeft_eq_mul (w : Word) {n : Nat} {c : Word} (hc : BitVec.twoPow 16 n = c) : w <<< n = c * w := by
  rw [BitVec.shiftLeft_eq_mul_twoPow, hc, BitVec.mul_comm]

/-! ### The whole effect, by where the operand comes from -/

section
variable {i j : Instr} {s : State} {o : Operand}

/-- A constant operand (R171 to R173). -/
theorem modifies_constant {v w : Word} (he : exec i s = .next (s.modify w)) (hw : w = v) : Modifies i s v :=
  modifies_of (r := .ok (s.modify w)) he (by rw [hw])

/-- MOD and MODN of one operand, wherever it is: its value is added, or subtracted (R174, R175). -/
theorem modifies_place (hi : exec i s = outcome (modifyBy o s)) (hj : exec j s = outcome (modifyByMinus o s))
    (hr : s.placeReaches (o.loc s)) : Modifies i s (s.valueAt (o.loc s)) ∧ Modifies j s (-(s.valueAt (o.loc s))) :=
  ⟨modifies_of hi ((modifyBy_ok _ _ _).mpr ⟨hr, rfl⟩), modifies_of hj ((modifyByMinus_ok _ _ _).mpr ⟨hr, rfl⟩)⟩

/-- MOD and MODN of a word of the data page. -/
theorem modifies_data {a : Word} (hi : exec i s = outcome (modifyBy o s)) (hj : exec j s = outcome (modifyByMinus o s))
    (hl : o.loc s = .data a) (hr : s.dataReaches a) : Modifies i s (s.data a) ∧ Modifies j s (-(s.data a)) := by
  have h := modifies_place hi hj
  rw [hl] at h
  exact h hr

/-- MOD and MODN of a word of the current program page. -/
theorem modifies_parameter {k : BitVec 8} (hi : exec i s = outcome ((s.ownParameter k).map fun w => s.modify w))
    (hj : exec j s = outcome ((s.ownParameter k).map fun w => s.modify (-w)))
    (hr : s.reaches (.abs s.progCur) (s.prog + zext k)) :
    Modifies i s (s.word s.progCur (s.prog + zext k)) ∧ Modifies j s (-(s.word s.progCur (s.prog + zext k))) := by
  rw [(ownParameter_ok s k _).mpr ⟨hr, rfl⟩] at hi hj
  exact ⟨modifies_of hi rfl, modifies_of hj rfl⟩

end

/-! ### The statement -/

/-- MODC, MOD4 and MOD8 (R171 to R173). -/
theorem modify_constants (s : State) (k : BitVec 8) :
    Modifies (.modcC8 k) s (zext k) ∧ Modifies (.modcCn8 k) s (-zext k) ∧ Modifies (.mod4C8 k) s (16 * zext k) ∧
      Modifies (.mod4Cn8 k) s (-(16 * zext k)) ∧ Modifies (.mod8 k) s (256 * zext k) := by
  have h16 : zext k <<< 4 = 16 * zext k := word_shiftLeft_eq_mul _ (by decide)
  have h256 : zext k <<< 8 = 256 * zext k := word_shiftLeft_eq_mul _ (by decide)
  exact ⟨modifies_constant rfl rfl, modifies_constant rfl rfl, modifies_constant rfl h16, modifies_constant rfl (congrArg _ h16),
    modifies_constant rfl h256⟩

/-- Settles O11, form by form: the constants of R171 to R173, and of MOD and MODN (R174, R175) the two displacements, the program word, the
register and the word at the index register. -/
theorem modifyInstructionsAddToMod : Obligations.ModifyInstructionsAddToMod := by
  intro s
  refine ⟨modify_constants s, fun x d hr => ?disp, fun k hr => ?direct, fun k hr => ?parameter, fun r => ?register, fun r hr => ?index⟩
  case disp => exact modifies_data rfl rfl (loc_disp_unmarked s x d) hr
  case direct => exact modifies_data rfl rfl (loc_direct_unmarked s k) hr
  case parameter => exact modifies_parameter rfl rfl hr
  case register => exact modifies_place (o := .r3 r) rfl rfl trivial
  case index => exact modifies_data rfl rfl (loc_x3 s r) hr

end Sys2Proof.Machine
end

section
/-! PROOF. The moves of 41_move.md that put values at places: MOVC, MOV and MVP write one place, PUT one word, XCH two places (R181, R182, R185,
R188, R189). The whole effect of each shared operation is said once, from where its operands are and what stands there. -/

namespace Sys2Proof.Machine

/-! ### What an operand designates -/

/-- The operand is the place `l`, which can be read and written and where `v` stands. -/
structure Operand.Designates (o : Operand) (s : State) (l : Loc) (v : Word) : Prop where
  place : o.loc s = l
  reached : s.placeReaches l
  value : s.valueAt l = v

/-- R3 (R128). -/
theorem designates_reg (s : State) (r : RegNum) : (Operand.reg r).Designates s (.reg r) (s.reg r) := ⟨rfl, trivial, rfl⟩

section
variable {s : State}

/-- X3 (R131). -/
theorem designates_x3 {r : RegNum} (h : s.dataReaches (s.base + s.reg r)) :
    (Operand.x3 r).Designates s (.data (s.base + s.reg r)) (s.data (s.base + s.reg r)) := ⟨loc_x3 s r, h, rfl⟩

/-- M B0.X3 (R131, R140). -/
theorem designates_b0x3 {r : RegNum} (h : s.dataReaches (s.base + s.reg r + s.mod)) :
    (Operand.b0x3 r).Designates s (.data (s.base + s.reg r + s.mod)) (s.data (s.base + s.reg r + s.mod)) := ⟨loc_b0x3 s r, h, rfl⟩

/-- M B6.X2 (R130). -/
theorem designates_b6x2 {x : BitVec 2} {d : BitVec 6} (h : s.dataReaches (s.base + s.reg (indexReg x) + zext d + s.mod)) :
    (Operand.b6x2 x d).Designates s (.data (s.base + s.reg (indexReg x) + zext d + s.mod))
      (s.data (s.base + s.reg (indexReg x) + zext d + s.mod)) := ⟨loc_b6x2 s x d, h, rfl⟩

/-- M B8 (R129). -/
theorem designates_b8 {k : BitVec 8} (h : s.dataReaches (s.base + zext k + s.mod)) :
    (Operand.b8 k).Designates s (.data (s.base + zext k + s.mod)) (s.data (s.base + zext k + s.mod)) := ⟨loc_b8 s k, h, rfl⟩

end

/-- M P6.X2: the index and the displacement added one after the other (R130, R140). -/
theorem progAddress_indexed (s : State) (x : BitVec 2) (d : BitVec 6) :
    s.progAddress (s.indexed x d) = s.prog + s.reg (indexReg x) + zext d + s.mod := by
  simp only [State.progAddress, State.indexed, BitVec.add_assoc]

/-! ### The whole effect of each shared operation -/

section
variable {i : Instr} {s : State} {o o1 o2 : Operand} {l l1 l2 : Loc} {v v1 v2 : Word}

/-- A value put at a destination (R181). -/
theorem writes_of_moveValue (he : exec i s = outcome (moveValue v1 o s)) (h : o.Designates s l v2) : Writes i s l v1 := by
  obtain ⟨rfl, hr, rfl⟩ := h
  exact writes_of he ((moveValue_ok _ _ _ _).mpr ⟨hr, rfl⟩)

/-- The value of one place put at another (R182). -/
theorem writes_of_move (he : exec i s = outcome (move o1 o2 s)) (h1 : o1.Designates s l1 v1) (h2 : o2.Designates s l2 v2) :
    Writes i s l2 v1 := by
  obtain ⟨rfl, hr1, rfl⟩ := h1
  obtain ⟨rfl, hr2, rfl⟩ := h2
  exact writes_of he ((move_ok _ _ _ _).mpr ⟨hr1, hr2, rfl⟩)

/-- A word of a program page put in a register (R182, R185, R186). -/
theorem writes_of_moveProgram {p : Byte} {a : Word} {r : RegNum} (he : exec i s = outcome (moveProgram p a r s))
    (hr : s.reaches (.abs p) a) : Writes i s (.reg r) (s.word p a) :=
  writes_of he ((moveProgram_ok _ _ _ _ _).mpr ⟨hr, rfl⟩)

/-- The bits that MOD selects replaced in the word at the second index register (R188). -/
theorem writes_of_put {f2 : RegNum} (he : exec i s = outcome (put o f2 s)) (h : o.Designates s l v)
    (hr2 : s.dataReaches (s.base + s.reg f2)) :
    Writes i s (.data (s.base + s.reg f2)) ((s.data (s.base + s.reg f2) &&& ~~~s.mod) ||| (v &&& s.mod)) := by
  obtain ⟨rfl, hr, rfl⟩ := h
  exact writes_of he ((put_ok _ _ _ _).mpr ⟨hr, hr2, rfl⟩)

/-- The values of two places exchanged, OP1 written last (R189). -/
theorem writesBoth_of_exchange (he : exec i s = outcome (exchange o1 o2 s)) (h1 : o1.Designates s l1 v1)
    (h2 : o2.Designates s l2 v2) : WritesBoth i s l2 v1 l1 v2 := by
  obtain ⟨rfl, hr1, rfl⟩ := h1
  obtain ⟨rfl, hr2, rfl⟩ := h2
  exact writesBoth_of he ((exchange_ok _ _ _ _).mpr ⟨hr2, hr1, rfl⟩)

end

/-! ### The statements -/

/-- Settles O12: the register forms and the memory forms of MOVC (R181), the constant of the CN forms negated before MOD is added. -/
theorem moveConstantWritesTheConstant : Obligations.MoveConstantWritesTheConstant := by
  intro s
  refine ⟨fun k r => ?register, fun r c hr => ?index⟩
  case register => exact ⟨writes_of_moveValue rfl (designates_reg s r), writes_of_moveValue rfl (designates_reg s r)⟩
  case index => exact ⟨writes_of_moveValue rfl (designates_x3 hr), writes_of_moveValue rfl (designates_x3 hr)⟩

/-- Settles O13, form by form of R182 and MVP of R185: what differs is only where the operands are, and so which transfers must go through. -/
theorem moveWritesTheOperand : Obligations.MoveWritesTheOperand := by
  intro s
  refine ⟨fun k r hr => ?direct, fun f1 f2 => ?registers, fun f1 f2 hr => ?toIndex, fun f1 f2 hr => ?fromIndex,
    fun f1 f2 hr1 hr2 => ?bothIndex, fun x d r hr => ?disp, fun k r hr => ?parameter, fun x d q hr => ?programWord⟩
  case direct =>
    exact ⟨writes_of_move rfl (designates_b8 hr) (designates_reg s r), writes_of_move rfl (designates_reg s r) (designates_b8 hr)⟩
  case registers => exact writes_of_move rfl (designates_reg s f1) (designates_reg s f2)
  case toIndex => exact writes_of_move rfl (designates_reg s f1) (designates_b0x3 hr)
  case fromIndex => exact writes_of_move rfl (designates_x3 hr) (designates_reg s f2)
  case bothIndex => exact writes_of_move rfl (designates_x3 hr1) (designates_b0x3 hr2)
  case disp =>
    exact ⟨writes_of_move rfl (designates_b6x2 hr) (designates_reg s r), writes_of_move rfl (designates_reg s r) (designates_b6x2 hr)⟩
  case parameter => exact writes_of_moveProgram rfl hr
  case programWord =>
    rw [← progAddress_indexed] at hr ⊢
    exact writes_of_moveProgram rfl hr

/-- Settles O17: PUT from a register and from a word (R188), and XCH with OP1 and OP2 each in a register or a word (R189). -/
theorem putMergesAndExchangeExchanges : Obligations.PutMergesAndExchangeExchanges := by
  intro s f1 f2
  refine ⟨fun hr => ?putRegister, fun hr1 hr2 => ?putWord, ?registers, fun hr => ?registerWord, fun hr => ?wordRegister,
    fun hr1 hr2 => ?words⟩
  case putRegister => exact writes_of_put rfl (designates_reg s f1) hr
  case putWord => exact writes_of_put rfl (designates_x3 hr1) hr2
  case registers => exact writesBoth_of_exchange rfl (designates_reg s f1) (designates_reg s f2)
  case registerWord => exact writesBoth_of_exchange rfl (designates_reg s f1) (designates_b0x3 hr)
  case wordRegister => exact writesBoth_of_exchange rfl (designates_x3 hr) (designates_reg s f2)
  case words => exact writesBoth_of_exchange rfl (designates_x3 hr1) (designates_b0x3 hr2)

end Sys2Proof.Machine
end

section
/-! PROOF. The jumps JMP and JMPI of 42_jump.md (R201 to R204): each ends in `State.jumpTo` of its target, those with a return link in the state
that `State.linked` gives. -/

namespace Sys2Proof.Machine

/-! ### The targets -/

/-- LN8, LN10, LN4: the field is negated, MOD is not (R127, R140, R201). -/
theorem relative_negated (s : State) {n : Nat} (k : BitVec n) : s.relative (negated k) = s.pc + 1 - zext k + s.mod := by
  rw [State.relative, negated, BitVec.sub_eq_add_neg]

/-- The L10 displacement as a word (R126). -/
theorem zext_disp10 (k : BitVec 8) (q : BitVec 2) : zext (disp10 k q) = 256 * zext q + zext k := by
  have hfield : (disp10 k q).toNat = 2 ^ 8 * q.toNat + k.toNat := by
    rw [disp10, Nat.two_pow_add_eq_or_of_lt k.isLt, Nat.mul_comm, ← Nat.shiftLeft_eq]
    exact BitVec.toNat_append q k
  apply BitVec.eq_of_toNat_eq
  rw [zext, BitVec.toNat_setWidth, hfield]
  simp [zext]

/-- M P6.X2 as the target of a jump, PROG added last (R130, R203). -/
theorem progAddress_indexed_prog_last (s : State) (x : BitVec 2) (d : BitVec 6) :
    s.progAddress (s.indexed x d) = s.reg (indexReg x) + zext d + s.mod + s.prog := by
  rw [State.progAddress, State.indexed, BitVec.add_assoc, BitVec.add_comm]

/-! ### The whole effect of a jump, by where its target comes from -/

section
variable {i : Instr} {s : State} {r : RegNum} {a b : Word} {p : Byte}

/-- A jump to a target of its own (R201, R203). -/
theorem jumps_direct (he : exec i s = .next (s.jumpTo b)) (h : b = a) : Jumps i s a :=
  jumps_of (r := .ok (s.jumpTo b)) he (by rw [h])

/-- A jump through a word of a page (R204). -/
theorem jumps_indirect (he : exec i s = outcome (jumpIndirect p a s)) (hr : s.reaches (.abs p) a) :
    Jumps i s (s.word p a + s.prog) :=
  jumps_of he ((jumpIndirect_ok _ _ _ _).mpr ⟨hr, rfl⟩)

/-- The whole effect of a jump with a return link: the link register, LOC and the modification (R202, R204). -/
def LinksAndJumps (i : Instr) (s : State) (r : RegNum) (a : Word) : Prop :=
  Answers i s fun t => PlaceSet s t (.reg r) (s.pc + 1 - s.prog) ∧ PswKept s t ∧ SpecialsKept s t ∧ EndsAt t a

theorem linksAndJumps_of {run : Run State} (he : exec i s = outcome run) (h : run = .ok ((s.linked r).jumpTo a)) :
    LinksAndJumps i s r a :=
  answers_of he h ⟨placeSet_putAt s (.reg r) s.link, ⟨rfl, rfl⟩, rfl, rfl, rfl, rfl⟩

/-- A linked jump to a target of its own (R202). -/
theorem linksAndJumps_direct (he : exec i s = .next ((s.linked r).jumpTo b)) (h : b = a) : LinksAndJumps i s r a :=
  linksAndJumps_of (run := .ok ((s.linked r).jumpTo b)) he (by rw [h])

/-- A linked jump through a word of a page: the link changes neither the word nor PROG (R204). -/
theorem linksAndJumps_indirect (he : exec i s = outcome (jumpIndirect p a (s.linked r))) (hr : s.reaches (.abs p) a) :
    LinksAndJumps i s r (s.word p a + s.prog) :=
  linksAndJumps_of he ((jumpIndirect_ok _ _ _ _).mpr ⟨hr, rfl⟩)

end

/-! ### The jumps with a return link, the link register by its field (R125) -/

/-- JMP S2 with L8 and LN8 (R202). -/
theorem jmp_links (s : State) (k : BitVec 8) (l : Link) :
    LinksAndJumps (.jmpS2L8 k l) s (linkRegister l) (s.pc + 1 + zext k + s.mod) ∧
      LinksAndJumps (.jmpS2Ln8 k l) s (linkRegister l) (s.pc + 1 - zext k + s.mod) :=
  ⟨linksAndJumps_direct rfl rfl, linksAndJumps_direct rfl (relative_negated s k)⟩

/-- JMPI S2 with P8 (R204). -/
theorem jmpi_links {s : State} {k : BitVec 8} (l : Link) (hr : s.reaches (.abs s.progCur) (s.prog + zext k + s.mod)) :
    LinksAndJumps (.jmpiS2P8 k l) s (linkRegister l) (s.word s.progCur (s.prog + zext k + s.mod) + s.prog) :=
  linksAndJumps_indirect rfl hr

/-! ### The statements -/

/-- Settles O20, form by form: the two displacements and their negations (R201), with a return link in each of the three registers (R202), and
the indexed form (R203). -/
theorem jumpsGoToTheirTarget : Obligations.JumpsGoToTheirTarget := by
  intro s
  refine ⟨fun k => ?eight, fun k q => ?ten, fun k l => ?linked, fun x d => ?indexed⟩
  case eight => exact ⟨jumps_direct rfl rfl, jumps_direct rfl (relative_negated s k)⟩
  case ten =>
    rw [← zext_disp10]
    exact ⟨jumps_direct rfl rfl, jumps_direct rfl (relative_negated s (disp10 k q))⟩
  case linked => cases l <;> exact jmp_links s k _
  case indexed => exact jumps_direct rfl (progAddress_indexed_prog_last s x d)

/-- Settles O21, form by form (R204): the operand in the data page, and in the current program page with and without a return link. -/
theorem jumpIndirectGoesThroughItsOperand : Obligations.JumpIndirectGoesThroughItsOperand := by
  intro s
  refine ⟨fun x d hr => ?disp, fun k hr => ?direct, fun k hr => ⟨?parameter, fun l => ?linked⟩⟩
  case disp =>
    rw [← disp_address] at hr ⊢
    exact jumps_indirect rfl hr
  case direct => exact jumps_indirect rfl hr
  case parameter => exact jumps_indirect rfl hr
  case linked => cases l <;> exact jmpi_links _ hr

end Sys2Proof.Machine
end

section
/-! PROOF. The logic instructions and those that replace their operands, of 43_arith_logic.md (R223 to R237): AND, IOR, XOR; CLR, DEC, INC,
INV, NEG, SWP, SXT, XTR; DECD, INCD, DDCP, DICP. The whole effect of each shared operation is said once, from what its operands designate. -/

namespace Sys2Proof.Machine

/-! ### The functions of the one-operand instructions -/

/-- INV: the one's complement is the difference from -1 (R229). -/
theorem not_eq_neg_one_sub (w : Word) : ~~~w = -1 - w := by
  rw [← BitVec.allOnes_sub_eq_not, ← BitVec.neg_one_eq_allOnes]
  rfl

theorem bitNumber_lt (s : State) (c : BitVec 4) : s.bitNumber c < 16 := by
  rw [State.bitNumber]
  split
  · exact Nat.mod_lt _ (by decide)
  · exact c.isLt

/-- SXT: bits n:0 stay, the bits above are copies of bit n (R236). -/
theorem getLsbD_signExtendFrom (w : Word) {n i : Nat} (hn : n < 16) (hi : i < 16) :
    (signExtendFrom n w).getLsbD i = w.getLsbD (min i n) := by
  have hsign : (w <<< (15 - n)).msb = w.getLsbD n := by
    have hlast : 16 - 1 - (15 - n) = n := by omega
    rw [BitVec.msb_shiftLeft, BitVec.getMsbD, hlast, decide_eq_true (by omega), Bool.true_and]
  rw [signExtendFrom, BitVec.getLsbD_sshiftRight, hsign, decide_eq_false (Nat.not_le_of_lt hi), Bool.not_false, Bool.true_and]
  split
  case isTrue hlow =>
    have hback : 15 - n + i - (15 - n) = i := by omega
    rw [Nat.min_eq_left (by omega), BitVec.getLsbD_shiftLeft, hback]
    simp [hlow]
  case isFalse hhigh => rw [Nat.min_eq_right (by omega)]

/-- XTR: the bits below n stay, the others are 0 (R237). -/
theorem getLsbD_lowBits (w : Word) (n : Nat) {i : Nat} (hi : i < 16) :
    (lowBits n w).getLsbD i = (decide (i < n) && w.getLsbD i) := by
  rw [lowBits, BitVec.getLsbD_ofNat, Nat.testBit_mod_two_pow, decide_eq_true hi, Bool.true_and]
  rfl

/-! ### A place and its successor -/

theorem Loc.succ_ne (l : Loc) : l.succ ≠ l := by
  cases l with
  | reg r => simp [Loc.succ]
  | data a => simp [Loc.succ]

/-- Every operand designates its own place. -/
theorem designates_loc {o : Operand} {s : State} (h : s.placeReaches (o.loc s)) : o.Designates s (o.loc s) (s.valueAt (o.loc s)) :=
  ⟨rfl, h, rfl⟩

/-! ### The whole effect of each shared operation -/

section
variable {i : Instr} {s : State} {o o1 o2 : Operand} {l l1 l2 : Loc} {v v1 v2 r : Word} {f : Word → Word}

/-- OP2 replaced by a function of both operands (R223 to R225). -/
theorem writes_of_logic {g : Word → Word → Word} (he : exec i s = outcome (logic g o1 o2 s)) (h1 : o1.Designates s l1 v1)
    (h2 : o2.Designates s l2 v2) : Writes i s l2 (g v2 v1) := by
  obtain ⟨rfl, hr1, rfl⟩ := h1
  obtain ⟨rfl, hr2, rfl⟩ := h2
  exact writes_of he ((logic_ok _ _ _ _ _).mpr ⟨hr1, hr2, rfl⟩)

/-- Zero put at the operand (R226). -/
theorem writes_of_clear (he : exec i s = outcome (clear o s)) (h : o.Designates s l v) : Writes i s l 0 := by
  obtain ⟨rfl, hr, rfl⟩ := h
  exact writes_of he ((clear_ok _ _ _).mpr ⟨hr, rfl⟩)

/-- The operand replaced by a function of itself (R227 to R231, R236, R237). -/
theorem writes_of_update (he : exec i s = outcome (update f o s)) (h : o.Designates s l v) (hv : f v = r) : Writes i s l r := by
  obtain ⟨rfl, hr, rfl⟩ := h
  subst hv
  exact writes_of he ((update_ok _ _ _ _).mpr ⟨hr, rfl⟩)

/-- Two operands replaced, both old values read before either write (R232, R233). -/
theorem writesBoth_of_updateBoth (he : exec i s = outcome (updateBoth f o1 o2 s)) (h1 : o1.Designates s l1 v1)
    (h2 : o2.Designates s l2 v2) : WritesBoth i s l1 (f v1) l2 (f v2) := by
  obtain ⟨rfl, hr1, rfl⟩ := h1
  obtain ⟨rfl, hr2, rfl⟩ := h2
  exact writesBoth_of he ((updateBoth_ok _ _ _ _ _).mpr ⟨hr1, hr2, rfl⟩)

/-- An operand and its successor replaced: the first write leaves the successor's value as it was (R234, R235). -/
theorem writesBoth_of_updatePair (he : exec i s = outcome (updatePair f o s)) (h : o.Designates s l v)
    (hr' : s.placeReaches l.succ) : WritesBoth i s l (f v) l.succ (f (s.valueAt l.succ)) := by
  obtain ⟨rfl, hr, rfl⟩ := h
  have hkept (w : Word) : (s.putAt (o.loc s) w).valueAt (o.loc s).succ = s.valueAt (o.loc s).succ := by
    rw [putAt_valueAt, if_neg (Loc.succ_ne _)]
  exact writesBoth_of he ((updatePair_ok _ _ _ _).mpr ⟨hr, hr', by rw [hkept]⟩)

end

/-! ### The whole effect of the instructions with a register form and a memory form -/

/-- INV, NEG and SWP of one operand, wherever it is (R229 to R231). -/
theorem writes_invert_negate_swap {i j k : Instr} {s : State} {o : Operand} {l : Loc} {v : Word}
    (hi : exec i s = outcome (update (~~~·) o s)) (hj : exec j s = outcome (update (-·) o s))
    (hk : exec k s = outcome (update swapBytes o s)) (h : o.Designates s l v) :
    Writes i s l (-1 - v) ∧ Writes j s l (0 - v) ∧ Writes k s l (lowByte v ++ highByte v) :=
  ⟨writes_of_update hi h (not_eq_neg_one_sub v), writes_of_update hj h (BitVec.zero_sub v).symm, writes_of_update hk h rfl⟩

/-- XTR of one operand, wherever it is (R237). -/
theorem writes_extract {i : Instr} {s : State} {o : Operand} {l : Loc} {v : Word} (n : Nat)
    (he : exec i s = outcome (update (lowBits n) o s)) (h : o.Designates s l v) :
    ∃ r : Word, (∀ i, i < 16 → r.getLsbD i = (decide (i < n) && v.getLsbD i)) ∧ Writes i s l r :=
  ⟨lowBits n v, fun _ hi => getLsbD_lowBits v n hi, writes_of_update he h rfl⟩

/-! ### The statements -/

/-- Settles O27: the forms of AND and IOR by the flags of their two operands (R223, R224), XOR into a register (R225). -/
theorem logicInstructionsCombineBits : Obligations.LogicInstructionsCombineBits := by
  intro s
  refine ⟨fun a f1 b f2 hr1 hr2 => ?andIor, fun a f1 f2 hr => ?xor⟩
  case andIor =>
    exact ⟨writes_of_logic (g := (· &&& ·)) rfl (designates_loc hr1) (designates_loc hr2),
      writes_of_logic (g := (· ||| ·)) rfl (designates_loc hr1) (designates_loc hr2)⟩
  case xor => exact writes_of_logic (g := (· ^^^ ·)) rfl (designates_loc hr) (designates_reg s f2)

/-- Settles O29: CLR, DEC and INC at M B6.X2, INV, NEG and SWP in a register and at M B0.X3, SXT at X3, XTR in a register and at X3. -/
theorem oneOperandInstructionsReplaceTheOperand : Obligations.OneOperandInstructionsReplaceTheOperand := by
  intro s
  refine ⟨fun x d hr => ?disp, fun r => ?register, fun r hr => ?word, fun r c hr => ?signExtend, fun r c => ?extractRegister,
    fun r c hr => ?extractWord⟩
  case disp =>
    exact ⟨writes_of_clear rfl (designates_b6x2 hr), writes_of_update rfl (designates_b6x2 hr) rfl,
      writes_of_update rfl (designates_b6x2 hr) rfl⟩
  case register => exact writes_invert_negate_swap rfl rfl rfl (designates_reg s r)
  case word => exact writes_invert_negate_swap rfl rfl rfl (designates_b0x3 hr)
  case signExtend =>
    exact ⟨signExtendFrom (s.bitNumber c) _, fun _ hi => getLsbD_signExtendFrom _ (bitNumber_lt s c) hi,
      writes_of_update rfl (designates_x3 hr) rfl⟩
  case extractRegister => exact writes_extract c.toNat rfl (designates_reg s r)
  case extractWord => exact writes_extract c.toNat rfl (designates_x3 hr)

/-- Settles O30: DECD and INCD of two registers and of two words (R232, R233), DDCP and DICP of a register pair and of two consecutive words
(R234, R235). -/
theorem doubleInstructionsChangeTwoOperands : Obligations.DoubleInstructionsChangeTwoOperands := by
  intro s f1 f2
  refine ⟨?decRegisters, ?incRegisters, fun hr1 hr2 => ?words, ?decPair, ?incPair, fun hr hr' => ?wordPair⟩
  case decRegisters => exact writesBoth_of_updateBoth (f := (· - 1)) rfl (designates_reg s f1) (designates_reg s f2)
  case incRegisters => exact writesBoth_of_updateBoth (f := (· + 1)) rfl (designates_reg s f1) (designates_reg s f2)
  case words =>
    exact ⟨writesBoth_of_updateBoth (f := (· - 1)) rfl (designates_x3 hr1) (designates_b0x3 hr2),
      writesBoth_of_updateBoth (f := (· + 1)) rfl (designates_x3 hr1) (designates_b0x3 hr2)⟩
  case decPair => exact writesBoth_of_updatePair (f := (· - 2)) rfl (designates_reg s f2) trivial
  case incPair => exact writesBoth_of_updatePair (f := (· + 2)) rfl (designates_reg s f2) trivial
  case wordPair =>
    exact ⟨writesBoth_of_updatePair (f := (· - 2)) rfl (designates_b0x3 hr) hr',
      writesBoth_of_updatePair (f := (· + 2)) rfl (designates_b0x3 hr) hr'⟩

end Sys2Proof.Machine
end

section
/-! PROOF. The skips of 44_skip.md (R250 to R273): each ends in `State.skip` of a condition on its operands. What is shown is that the condition
computed is the condition that its rule names. -/

namespace Sys2Proof.Machine

/-! ### The conditions computed (R252, R253): a relation with the value that the instruction wants -/

section
variable {v w : Word}

/-- SOZ, SOZP: the operand is zero (R259, R261). -/
theorem isZero_iff : ((v == 0) == true) = true ↔ v = 0 := by rw [beq_iff_eq, beq_iff_eq]

/-- SON, SONP: the operand is not zero (R258, R260). -/
theorem isNotZero_iff : ((v == 0) == false) = true ↔ v ≠ 0 := by rw [beq_iff_eq, beq_eq_false_iff_ne]

/-- SEQ, SEQP (R262, R268). -/
theorem equal_iff : (equalWords v w == true) = true ↔ v = w := by rw [equalWords, beq_iff_eq, beq_iff_eq]

/-- SNE, SNEP (R263, R269). -/
theorem notEqual_iff : (equalWords v w == false) = true ↔ v ≠ w := by rw [equalWords, beq_iff_eq, beq_eq_false_iff_ne]

/-- SLT, SLTP (R265, R271). -/
theorem less_iff : (lessSigned v w == true) = true ↔ v.toInt < w.toInt := by rw [lessSigned, beq_iff_eq, decide_eq_true_iff]

/-- SGE, SGEP: what is not less, signed, is greater or equal (R264, R270). -/
theorem greaterOrEqual_iff : (lessSigned v w == false) = true ↔ w.toInt ≤ v.toInt := by
  rw [lessSigned, beq_iff_eq, decide_eq_false_iff_not, Int.not_lt]

/-- SLO, SLOP (R267, R273). -/
theorem lower_iff : (lessUnsigned v w == true) = true ↔ v.toNat < w.toNat := by rw [lessUnsigned, beq_iff_eq, decide_eq_true_iff]

/-- SHS, SHSP: what is not lower, unsigned, is higher or the same (R266, R272). -/
theorem higherOrSame_iff : (lessUnsigned v w == false) = true ↔ w.toNat ≤ v.toNat := by
  rw [lessUnsigned, beq_iff_eq, decide_eq_false_iff_not, Nat.not_lt]

end

/-! ### The whole effect of each shared operation -/

section
variable {i : Instr} {s : State} {o o1 o2 : Operand} {l l1 l2 : Loc} {v v1 v2 : Word} {want pair : Bool} {cond : Prop}

/-- Skip on bit (R251). -/
theorem skips_of_bit {c : BitVec 4} (he : exec i s = outcome (skipBit want pair o c s)) (h : o.Designates s l v) :
    Skips i s (v.getLsbD (s.bitNumber c) = want) pair := by
  obtain ⟨rfl, hr, rfl⟩ := h
  exact skips_of he ((skipBit_ok _ _ _ _ _ _).mpr ⟨hr, rfl⟩) beq_iff_eq

/-- Skip on operand (R252). -/
theorem skips_of_operand (he : exec i s = outcome (skipZero want pair o s)) (h : o.Designates s l v)
    (hc : ((v == 0) == want) = true ↔ cond) : Skips i s cond pair := by
  obtain ⟨rfl, hr, rfl⟩ := h
  exact skips_of he ((skipZero_ok _ _ _ _ _).mpr ⟨hr, rfl⟩) hc

variable {rel : Word → Word → Bool}

/-- Skip on condition with a constant, to which MOD is added (R253). -/
theorem skips_of_constant {c : Word} (he : exec i s = outcome (skipConstant rel want pair o c s)) (h : o.Designates s l v)
    (hc : (rel v (c + s.mod) == want) = true ↔ cond) : Skips i s cond pair := by
  obtain ⟨rfl, hr, rfl⟩ := h
  exact skips_of he ((skipConstant_ok _ _ _ _ _ _ _).mpr ⟨hr, rfl⟩) hc

/-- Skip on condition with two operands (R253). -/
theorem skips_of_compare (he : exec i s = outcome (skipCompare rel want pair o1 o2 s)) (h1 : o1.Designates s l1 v1)
    (h2 : o2.Designates s l2 v2) (hc : (rel v1 v2 == want) = true ↔ cond) : Skips i s cond pair := by
  obtain ⟨rfl, hr1, rfl⟩ := h1
  obtain ⟨rfl, hr2, rfl⟩ := h2
  exact skips_of he ((skipCompare_ok _ _ _ _ _ _ _).mpr ⟨hr1, hr2, rfl⟩) hc

end

/-- SBN, SBZ, SBNP and SBZP of one operand, wherever it is (R254 to R257). -/
theorem skips_bit_set_clear {i j k m : Instr} {s : State} {o : Operand} {l : Loc} {v : Word} {c : BitVec 4}
    (hi : exec i s = outcome (skipBit true false o c s)) (hj : exec j s = outcome (skipBit false false o c s))
    (hk : exec k s = outcome (skipBit true true o c s)) (hm : exec m s = outcome (skipBit false true o c s)) (h : o.Designates s l v) :
    Skips i s (v.getLsbD (s.bitNumber c) = true) false ∧ Skips j s (v.getLsbD (s.bitNumber c) = false) false ∧
      Skips k s (v.getLsbD (s.bitNumber c) = true) true ∧ Skips m s (v.getLsbD (s.bitNumber c) = false) true :=
  ⟨skips_of_bit hi h, skips_of_bit hj h, skips_of_bit hk h, skips_of_bit hm h⟩

/-! ### The statements -/

/-- Settles O31: the bit skips of a register and of the word at X3 (R254 to R257), the operand skips of M B6.X2 (R258 to R261). -/
theorem skipsOnBitAndOnOperand : Obligations.SkipsOnBitAndOnOperand := by
  intro s
  refine ⟨fun r c => ⟨?register, fun hr => ?word⟩, fun x d hr => ?operand⟩
  case register => exact skips_bit_set_clear rfl rfl rfl rfl (designates_reg s r)
  case word => exact skips_bit_set_clear rfl rfl rfl rfl (designates_x3 hr)
  case operand =>
    have h := designates_b6x2 hr
    exact ⟨skips_of_operand rfl h isNotZero_iff, skips_of_operand rfl h isZero_iff,
      skips_of_operand rfl h isNotZero_iff, skips_of_operand rfl h isZero_iff⟩

/-- Settles O32: SEQ, SNE, SEQP and SNEP of a register and of the word at X3 with C4 and with CN4, and of two operands. -/
theorem skipsOnEquality : Obligations.SkipsOnEquality := by
  intro s
  refine ⟨fun r c => ?constant, fun a f1 b f2 hr1 hr2 => ?operands⟩
  case constant =>
    have h := designates_reg s r
    refine ⟨skips_of_constant rfl h equal_iff, skips_of_constant rfl h equal_iff,
      skips_of_constant rfl h notEqual_iff, skips_of_constant rfl h notEqual_iff,
      skips_of_constant rfl h equal_iff, skips_of_constant rfl h equal_iff,
      skips_of_constant rfl h notEqual_iff, skips_of_constant rfl h notEqual_iff, fun hr => ?word⟩
    case word =>
      have h := designates_x3 hr
      exact ⟨skips_of_constant rfl h equal_iff, skips_of_constant rfl h equal_iff,
        skips_of_constant rfl h notEqual_iff, skips_of_constant rfl h notEqual_iff,
        skips_of_constant rfl h equal_iff, skips_of_constant rfl h equal_iff,
        skips_of_constant rfl h notEqual_iff, skips_of_constant rfl h notEqual_iff⟩
  case operands =>
    have h1 := designates_loc hr1
    have h2 := designates_loc hr2
    exact ⟨skips_of_compare rfl h1 h2 equal_iff, skips_of_compare rfl h1 h2 notEqual_iff,
      skips_of_compare rfl h1 h2 equal_iff, skips_of_compare rfl h1 h2 notEqual_iff⟩

/-- Settles O33: SGE, SLT, SHS, SLO and their pair versions, of a register and of the word at X3 with C4, and of two operands. -/
theorem skipsOnOrder : Obligations.SkipsOnOrder := by
  intro s
  refine ⟨fun r c => ?constant, fun a f1 b f2 hr1 hr2 => ?operands⟩
  case constant =>
    have h := designates_reg s r
    refine ⟨skips_of_constant rfl h greaterOrEqual_iff, skips_of_constant rfl h less_iff,
      skips_of_constant rfl h higherOrSame_iff, skips_of_constant rfl h lower_iff,
      skips_of_constant rfl h greaterOrEqual_iff, skips_of_constant rfl h less_iff,
      skips_of_constant rfl h higherOrSame_iff, skips_of_constant rfl h lower_iff, fun hr => ?word⟩
    case word =>
      have h := designates_x3 hr
      exact ⟨skips_of_constant rfl h greaterOrEqual_iff, skips_of_constant rfl h less_iff,
        skips_of_constant rfl h higherOrSame_iff, skips_of_constant rfl h lower_iff,
        skips_of_constant rfl h greaterOrEqual_iff, skips_of_constant rfl h less_iff,
        skips_of_constant rfl h higherOrSame_iff, skips_of_constant rfl h lower_iff⟩
  case operands =>
    have h1 := designates_loc hr1
    have h2 := designates_loc hr2
    exact ⟨skips_of_compare rfl h1 h2 greaterOrEqual_iff, skips_of_compare rfl h1 h2 less_iff,
      skips_of_compare rfl h1 h2 higherOrSame_iff, skips_of_compare rfl h1 h2 lower_iff,
      skips_of_compare rfl h1 h2 greaterOrEqual_iff, skips_of_compare rfl h1 h2 less_iff,
      skips_of_compare rfl h1 h2 higherOrSame_iff, skips_of_compare rfl h1 h2 lower_iff⟩

end Sys2Proof.Machine
end

section
/-! PROOF. The single shifts of 45_shift.md (R280 to R284): each puts a function of its operand and of the count where the operand stands. What is
shown is that the function computed is the one its rule names, for every count. -/

namespace Sys2Proof.Machine

/-! ### The functions of the single shifts -/

/-- SLL: a multiple of the value, modulo 65536 (R283). -/
theorem shiftLeftWord_eq_mul (w : Word) (n : Nat) : shiftLeftWord w n = BitVec.ofNat 16 (w.toNat * 2 ^ n) := by
  apply BitVec.eq_of_toNat_eq
  rw [shiftLeftWord, BitVec.toNat_shiftLeft, BitVec.toNat_ofNat, Nat.shiftLeft_eq]

/-- SRL: a quotient of the unsigned value (R284). -/
theorem shiftRightWord_eq_div (w : Word) (n : Nat) : shiftRightWord w n = BitVec.ofNat 16 (w.toNat / 2 ^ n) := by
  rw [shiftRightWord, ← Nat.shiftRight_eq_div_pow, ← BitVec.toNat_ushiftRight, BitVec.ofNat_toNat, BitVec.setWidth_eq]

/-- SRA: a quotient of the signed value, rounded down (R282): the divisor is positive, so that `/` on the integers rounds toward minus
infinity. -/
theorem shiftArithmetic_eq_div (w : Word) (n : Nat) : shiftArithmetic w n = BitVec.ofInt 16 (w.toInt / 2 ^ n) := by
  have hpow : ((2 ^ n : Nat) : Int) = 2 ^ n := Int.natCast_pow 2 n
  rw [shiftArithmetic, BitVec.sshiftRight, Int.shiftRight_eq_div_pow, hpow]

/-- SLC: bit i goes to bit (i + n) mod 16 (R281). A bit that passes bit 15 is one of the low bits of the rotated word. -/
theorem getLsbD_rotateWord (w : Word) (n : Nat) {i : Nat} (hi : i < 16) : (rotateWord w n).getLsbD ((i + n) % 16) = w.getLsbD i := by
  have hn : n % 16 < 16 := Nat.mod_lt _ (by decide)
  rw [rotateWord, BitVec.getLsbD_rotateLeft, Bool.cond_decide]
  by_cases hwrap : i + n % 16 < 16
  case pos =>
    have hto : (i + n) % 16 = i + n % 16 := by omega
    rw [hto, if_neg (by omega), decide_eq_true hwrap, Bool.true_and, Nat.add_sub_cancel]
  case neg =>
    have hto : (i + n) % 16 = i + n % 16 - 16 := by omega
    have hfrom : 16 - n % 16 + (i + n % 16 - 16) = i := by omega
    rw [hto, if_pos (by omega), hfrom]

/-! ### The whole effect of the single shifts -/

section
variable {s : State} {o : Operand} {l : Loc} {v : Word} {c : BitVec 4}

/-- The operand replaced by a function of itself and of the count (R280). -/
theorem writes_of_shift {i : Instr} {f : Word → Nat → Word} {r : Word} (he : exec i s = outcome (shift f o c s))
    (h : o.Designates s l v) (hv : f v (s.shiftCount c) = r) : Writes i s l r := by
  obtain ⟨rfl, hr, rfl⟩ := h
  subst hv
  exact writes_of he ((shift_ok _ _ _ _ _).mpr ⟨hr, rfl⟩)

/-- SLL, SRL, SRA and SLC of one operand, wherever it is (R281 to R284). -/
theorem writes_single_shifts {i j k m : Instr} (hi : exec i s = outcome (shift shiftLeftWord o c s))
    (hj : exec j s = outcome (shift shiftRightWord o c s)) (hk : exec k s = outcome (shift shiftArithmetic o c s))
    (hm : exec m s = outcome (shift rotateWord o c s)) (h : o.Designates s l v) :
    let n := s.shiftCount c
    Writes i s l (BitVec.ofNat 16 (v.toNat * 2 ^ n)) ∧ Writes j s l (BitVec.ofNat 16 (v.toNat / 2 ^ n)) ∧
      Writes k s l (BitVec.ofInt 16 (v.toInt / 2 ^ n)) ∧
      ∃ u : Word, (∀ i, i < 16 → u.getLsbD ((i + n) % 16) = v.getLsbD i) ∧ Writes m s l u :=
  ⟨writes_of_shift hi h (shiftLeftWord_eq_mul v _), writes_of_shift hj h (shiftRightWord_eq_div v _),
    writes_of_shift hk h (shiftArithmetic_eq_div v _), rotateWord v _, fun _ hb => getLsbD_rotateWord v _ hb,
    writes_of_shift hm h rfl⟩

end

/-! ### The statement -/

/-- Settles O34: SLL, SRL, SRA and SLC of a register and of the word at X3. -/
theorem singleShiftsShift : Obligations.SingleShiftsShift := by
  intro s r c
  refine ⟨?register, fun hr => ?word⟩
  case register => exact writes_single_shifts rfl rfl rfl rfl (designates_reg s r)
  case word => exact writes_single_shifts rfl rfl rfl rfl (designates_x3 hr)

end Sys2Proof.Machine
end

section
/-! PROOF. The single bit instructions of 46_single_bit.md (R290 to R294): CLRS and SETS put a word with one bit changed where OP1 stands, RELS and
RESS put it in memory under semaphore protection and keep the modification. -/

namespace Sys2Proof.Machine

/-! ### The words with one bit changed (R290) -/

/-- SETS, RESS: one bit set. -/
theorem bitChanged_setBit (w : Word) (n : Nat) : BitChanged w (setBit w n) n true := by
  intro i hi
  rw [getLsbD_setBit w n i hi]
  by_cases h : i = n <;> simp [h]

/-- CLRS, RELS: one bit cleared. -/
theorem bitChanged_clearBit (w : Word) (n : Nat) : BitChanged w (clearBit w n) n false := by
  intro i hi
  rw [getLsbD_clearBit w n i hi]
  by_cases h : i = n <;> simp [h]

/-! ### The whole effect of CLRS and SETS -/

section
variable {i : Instr} {s : State} {o o1 o2 : Operand} {l l1 l2 : Loc} {v v1 v2 : Word} {f : Word → Nat → Word} {b : Bool}

/-- The bit that OP2 numbers changed in OP1 (R291, R292). -/
theorem writesBit_of_changeBit (hf : ∀ w n, BitChanged w (f w n) n b) (he : exec i s = outcome (changeBit f o1 o2 s))
    (h1 : o1.Designates s l1 v1) (h2 : o2.Designates s l2 v2) : WritesBit i s l1 (v2.toNat % 16) b := by
  obtain ⟨rfl, hr1, rfl⟩ := h1
  obtain ⟨rfl, hr2, rfl⟩ := h2
  exact ⟨_, hf _ _, writes_of he ((changeBit_ok _ _ _ _ _).mpr ⟨hr2, hr1, rfl⟩)⟩

/-- The bit that a constant numbers changed in OP1 (R292). -/
theorem writesBit_of_changeBitConstant {c : BitVec 4} (hf : ∀ w n, BitChanged w (f w n) n b)
    (he : exec i s = outcome (changeBitConstant f o c s)) (h : o.Designates s l v) : WritesBit i s l c.toNat b := by
  obtain ⟨rfl, hr, rfl⟩ := h
  exact ⟨_, hf _ _, writes_of he ((changeBitConstant_ok _ _ _ _ _).mpr ⟨hr, rfl⟩)⟩

/-- SETS and CLRS of one OP1, wherever it is, by the bit that OP2 numbers (R291, R292). -/
theorem writesBit_set_clear {j : Instr} (hi : exec i s = outcome (changeBit setBit o1 o2 s))
    (hj : exec j s = outcome (changeBit clearBit o1 o2 s)) (h1 : o1.Designates s l1 v1) (h2 : o2.Designates s l2 v2) :
    WritesBit i s l1 (v2.toNat % 16) true ∧ WritesBit j s l1 (v2.toNat % 16) false :=
  ⟨writesBit_of_changeBit bitChanged_setBit hi h1 h2, writesBit_of_changeBit bitChanged_clearBit hj h1 h2⟩

end

/-! ### The whole effect of RELS and RESS -/

theorem advance_advance (s : State) (m n : Word) : (s.advance m).advance n = s.advance (m + n) := by
  simp only [State.advance, BitVec.add_assoc]

section
variable {s : State} {f1 : RegNum} {c : BitVec 4}

/-- RESS with a set bit: semaphore blocking cleared, one location on (R294). -/
theorem reserve_of_bit_set (hr : s.dataReaches (s.base + s.reg f1))
    (hb : (s.data (s.base + s.reg f1)).getLsbD c.toNat = true) :
    reserve f1 c s = .ok { s.advance 1 with semBlock := false } :=
  (reserve_ok _ _ _ _).mpr ⟨hr, (if_pos hb).symm⟩

/-- RESS with a clear bit: the bit set under semaphore protection, two locations on (R294). -/
theorem reserve_of_bit_clear (hr : s.dataReaches (s.base + s.reg f1))
    (hb : (s.data (s.base + s.reg f1)).getLsbD c.toNat = false) :
    reserve f1 c s = .ok { (s.putWord s.dataPage (s.base + s.reg f1)
      (setBit (s.data (s.base + s.reg f1)) c.toNat)).advance 2 with semBlock := false } := by
  refine (reserve_ok _ _ _ _).mpr ⟨hr, ?_⟩
  rw [if_neg (Bool.eq_false_iff.mp hb), advance_advance]
  rfl

/-- A word of the own data page with one bit changed under semaphore protection, `k` locations on (R57, R293, R294). -/
theorem answers_of_bit_under_semaphore {i : Instr} {r : Run State} {a v k : Word} {n : Nat} {b : Bool} (he : exec i s = outcome r)
    (h : r = .ok { (s.putWord s.dataPage a v).advance k with semBlock := false }) (hv : BitChanged (s.data a) v n b) :
    Answers i s fun t =>
      (∃ v, BitChanged (s.data a) v n b ∧ WordSet s t s.dataPage a v) ∧ RegsKept s t ∧ PswKept s t ∧
        SpecialsKept { s with semBlock := false } t ∧ ModificationKept s t ∧ t.pc = s.pc + k :=
  answers_of he h ⟨⟨v, hv, wordSet_of_mem rfl⟩, fun _ => rfl, ⟨rfl, rfl⟩, rfl, ⟨rfl, rfl⟩, rfl⟩

end

/-! ### The statements -/

/-- Settles O36: SETS and CLRS of a register and of the word at X3 by the bit that OP2 numbers (R291, R292), SETS of both by a constant (R292). -/
theorem setAndClearSingleBit : Obligations.SetAndClearSingleBit := by
  intro s
  refine ⟨fun f1 b f2 hr2 => ?operand, fun f1 c => ⟨?constantRegister, fun hr => ?constantWord⟩⟩
  case operand =>
    have h2 := designates_loc hr2
    obtain ⟨hset, hclear⟩ := writesBit_set_clear (i := .setsR f1 b f2) (j := .clrsR f1 b f2) rfl rfl (designates_reg s f1) h2
    exact ⟨hset, hclear, fun hr1 => writesBit_set_clear rfl rfl (designates_x3 hr1) h2⟩
  case constantRegister => exact writesBit_of_changeBitConstant bitChanged_setBit rfl (designates_reg s f1)
  case constantWord => exact writesBit_of_changeBitConstant bitChanged_setBit rfl (designates_x3 hr)

/-- Settles O37: RELS (R293), and RESS (R294) by the bit that it finds. -/
theorem releaseAndReserveUnderSemaphore : Obligations.ReleaseAndReserveUnderSemaphore := by
  intro s f1 c a free hr
  refine ⟨?release, fun hb => ?busy, fun hb => ?reserved⟩
  case release => exact answers_of_bit_under_semaphore rfl ((release_ok _ _ _ _).mpr ⟨hr, rfl⟩) (bitChanged_clearBit _ _)
  case busy =>
    exact answers_of rfl (reserve_of_bit_set hr hb) ⟨⟨fun _ => rfl, fun _ => rfl, ⟨rfl, rfl⟩, rfl⟩, ⟨rfl, rfl⟩, rfl⟩
  case reserved => exact answers_of_bit_under_semaphore rfl (reserve_of_bit_clear hr hb) (bitChanged_setBit _ _)

end Sys2Proof.Machine
end

section
/-! PROOF. The loads of 48_special.md: LDS and SLS (R311, R312), LDT, LDM, LBR and LDL (R315, R317, R319, R321), LDN and LDP (R322, R323). The
cache statements and the load of a descriptor are each said once as an update of the fields they change. -/

namespace Sys2Proof.Machine

/-! ### The cache statements of a load of the PSW (R48, R311, R322) -/

/-- A cache statement is an update of the cache enable. -/
theorem bracketCache_eq (s : State) (b : Bool) : s.bracketCache b = { s with cacheOn := (s.bracketCache b).cacheOn } := by
  unfold State.bracketCache
  split <;> rfl

/-- The cache enable that the two cache statements leave: on CPU type 7 the first acts where bit 13 of the old PSW is 1, the second where
bit 13 of the new PSW is 1. -/
def loadedCache (s : State) (psw : Word) : Bool :=
  if s.plat.cpu = .type7 then (psw.getLsbD 13 || (s.cacheOn && !s.psw.getLsbD 13)) else s.cacheOn

/-- The first statement tests the PSW of `s`, the second that of `u`; what comes between them leaves the cache enable alone. -/
theorem cacheOn_between_brackets {s u : State} (hplat : u.plat = s.plat) (hcache : u.cacheOn = (s.bracketCache false).cacheOn) :
    (u.bracketCache true).cacheOn = loadedCache s u.psw := by
  rw [bracketCache_cacheOn, hcache, bracketCache_cacheOn, hplat, loadedCache, State.ca, State.ca]
  by_cases hcpu : s.plat.cpu = .type7
  case pos => cases u.psw.getLsbD 13 <;> cases s.psw.getLsbD 13 <;> simp [hcpu]
  case neg => simp [hcpu]

/-! ### LDS and SLS -/

/-- Bits 3:2 of the new PSW in UMAP bits 1:0, the other bits of UMAP as before (R311). -/
theorem getLsbD_loadedUmap (umap v : Word) (n : Nat) :
    (insertBits umap 0 (v.extractLsb' 2 2)).getLsbD n = if n < 2 then v.getLsbD (n + 2) else umap.getLsbD n := by
  split
  case isTrue hn =>
    rw [getLsbD_insertBits _ _ _ _ (by omega), if_pos (by omega), BitVec.getLsbD_extractLsb', Nat.sub_zero, decide_eq_true hn,
      Bool.true_and, Nat.add_comm]
  case isFalse hn => exact getLsbD_insertBits_outside _ _ _ _ (by omega)

theorem loadPsw_cacheOn (s : State) (v : Word) : (s.loadPsw v).cacheOn = loadedCache s v :=
  cacheOn_between_brackets (s.bracketCache_plat false) rfl

/-- What a load of the PSW changes: the PSW, UMAP and the cache enable (R311). -/
theorem loadPsw_eq (s : State) (v : Word) :
    s.loadPsw v = { s with psw := v, umap := insertBits s.umap 0 (v.extractLsb' 2 2), cacheOn := loadedCache s v } := by
  rw [← loadPsw_cacheOn, State.loadPsw, bracketCache_eq, bracketCache_eq s]

/-- The whole effect of LDS and SLS with operand value `v` (R311, R312). -/
def LoadsStatus (i : Instr) (s : State) (v : Word) : Prop :=
  Answers i s fun t =>
    RegsKept s t ∧ MemKept s t ∧ t.psw = v ∧ t.freeCtr = s.freeCtr ∧ EndsAfter s t 1 ∧
    (∀ n, t.umap.getLsbD n = if n < 2 then v.getLsbD (n + 2) else s.umap.getLsbD n) ∧
    t.cacheOn = loadedCache s v ∧ SpecialsKept { s with umap := t.umap, cacheOn := t.cacheOn } t

theorem loadsStatus_of {i : Instr} {s : State} {o : Operand} {l : Loc} {v : Word} (he : exec i s = outcome (loadStatus o s))
    (h : o.Designates s l v) : LoadsStatus i s v := by
  obtain ⟨rfl, hr, rfl⟩ := h
  refine answers_of he ((loadStatus_ok _ _ _).mpr ⟨hr, rfl⟩) ?_
  rw [loadPsw_eq]
  exact ⟨fun _ => rfl, fun _ => rfl, rfl, rfl, ⟨rfl, rfl, rfl⟩, getLsbD_loadedUmap _ _, rfl, rfl⟩

/-- Settles O40: LDS and SLS from a register and from the word at M B0.X3. -/
theorem loadStatusLoadsThePsw : Obligations.LoadStatusLoadsThePsw := by
  intro s r
  refine ⟨?register, fun hr => ?word⟩
  case register => exact ⟨loadsStatus_of rfl (designates_reg s r), loadsStatus_of rfl (designates_reg s r)⟩
  case word => exact ⟨loadsStatus_of rfl (designates_b0x3 hr), loadsStatus_of rfl (designates_b0x3 hr)⟩

/-! ### LDT, LDL, LBR and LDM -/

section
variable {i : Instr} {s : State} {o : Operand} {l : Loc} {v : Word}

/-- LDT of one operand, wherever it is (R315). -/
theorem becomes_of_loadTimer (he : exec i s = outcome (loadTimer o s)) (h : o.Designates s l v) : Becomes i s { s with timer := v } := by
  obtain ⟨rfl, hr, rfl⟩ := h
  exact becomes_of he ((loadTimer_ok _ _ _).mpr ⟨hr, rfl⟩) rfl

/-- LDL of one operand, wherever it is (R321). -/
theorem becomes_of_loadLevel (he : exec i s = outcome (loadLevel o s)) (h : o.Designates s l v) : Becomes i s { s with level := v } := by
  obtain ⟨rfl, hr, rfl⟩ := h
  exact becomes_of he ((loadLevel_ok _ _ _).mpr ⟨hr, rfl⟩) rfl

end

/-- The interrupt mask put in PSW bits 15:14 (R49). -/
theorem pswChanged_setMask (s : State) (m : BitVec 2) :
    PswChanged s (s.setMask m) [(15, m.getLsbD 1), (14, m.getLsbD 0)] := by
  refine ⟨?inside, fun i hi => ?outside, rfl⟩
  case inside =>
    have hbit (n : Nat) (hn : n < 2) : (insertBits s.psw 14 m).getLsbD (14 + n) = m.getLsbD n := by
      rw [getLsbD_insertBits _ _ _ _ (by omega), if_pos (by omega), Nat.add_sub_cancel_left]
    exact List.forall_mem_cons.mpr ⟨hbit 1 (by decide), List.forall_mem_singleton.mpr (hbit 0 (by decide))⟩
  case outside =>
    simp only [List.map_cons, List.map_nil, List.mem_cons, List.not_mem_nil, or_false, not_or] at hi
    by_cases hlt : i < 16
    case pos => exact getLsbD_insertBits_outside _ _ _ _ (by omega)
    case neg => rw [BitVec.getLsbD_of_ge _ _ (by omega), BitVec.getLsbD_of_ge _ _ (by omega)]

/-- The two low bits of the constant of LDM (R317). -/
theorem getLsbD_maskConstant (c : BitVec 4) {n : Nat} (hn : n < 2) : (c.extractLsb' 0 2).getLsbD n = c.getLsbD n := by
  rw [BitVec.getLsbD_extractLsb', decide_eq_true hn, Bool.true_and, Nat.zero_add]

/-- Settles O41: LDT and LDL from a register and from the word at M B0.X3 (R315, R321), LBR (R319) and LDM (R317). -/
theorem loadInstructionsLoadARegister : Obligations.LoadInstructionsLoadARegister := by
  intro s
  refine ⟨fun r => ?register, fun r => ?word, fun hr => ?bound, fun c => ?mask⟩
  case register => exact ⟨becomes_of_loadTimer rfl (designates_reg s r), becomes_of_loadLevel rfl (designates_reg s r)⟩
  case word =>
    intro a hr
    exact ⟨becomes_of_loadTimer rfl (designates_b0x3 hr), becomes_of_loadLevel rfl (designates_b0x3 hr)⟩
  case bound => exact becomes_of rfl ((loadBound_ok _ _).mpr ⟨hr, rfl⟩) rfl
  case mask =>
    have hpsw := pswChanged_setMask s (c.extractLsb' 0 2)
    rw [getLsbD_maskConstant c (by decide), getLsbD_maskConstant c (by decide)] at hpsw
    exact ⟨_, rfl, fun _ => rfl, fun _ => rfl, hpsw, rfl, rfl, rfl, rfl⟩

/-! ### The transfers of a process load -/

/-- The level counter is the low 15 bits of LEVEL (R53). -/
theorem counterZero_iff (level : Word) : counterZero level = true ↔ level.toNat % 32768 = 0 := by
  rw [counterZero, beq_iff_eq, ← BitVec.toNat_inj, BitVec.extractLsb'_toNat, Nat.shiftRight_zero]
  rfl

/-- The address `k` words after the second of ascending addresses is `k + 1` words after the first. -/
theorem next_add (a : Word) (k : Nat) : a + 1 + BitVec.ofNat 16 k = a + BitVec.ofNat 16 (k + 1) := by
  rw [BitVec.add_assoc, Nat.add_comm k 1, BitVec.ofNat_add]
  rfl

/-- Ascending addresses that all answer, given by their distance from the first. -/
theorem wordsReach_of_lt {pl : Platform} {p : Byte} {a : Word} {n : Nat}
    (h : ∀ k < n, transferFailure pl (.abs p) (a + BitVec.ofNat 16 k) = none) : wordsReach pl p a n := by
  induction n generalizing a with
  | zero => trivial
  | succ n ih =>
    refine ⟨by simpa using h 0 n.succ_pos, ih fun k hk => ?_⟩
    rw [next_add]
    exact h (k + 1) (Nat.succ_lt_succ hk)

/-- The words 0 to 13, word -2 and, where the level counter is 0, word -1 of a descriptor answer (R94, R322). -/
theorem processReaches_of {s : State} {p : Byte} {d : Word} (hlevel : s.reaches (.abs p) (d - 2))
    (hbound : (s.word p (d - 2)).toNat % 32768 = 0 → s.reaches (.abs p) (d - 1))
    (hwords : ∀ n < 14, s.reaches (.abs p) (d + BitVec.ofNat 16 n)) : s.processReaches p d :=
  ⟨hlevel, fun h => hbound ((counterZero_iff _).mp h), wordsReach_of_lt fun n hn => hwords n (by omega), hwords 8 (by decide),
    hwords 9 (by decide), hwords 10 (by decide), hwords 11 (by decide), hwords 12 (by decide), hwords 13 (by decide)⟩

/-! ### The registers of a process load -/

/-- A register that is not in the list keeps its value. -/
theorem loadedRegisters_reg_of_not_mem {rs : List RegNum} {q : RegNum} (hq : q ∉ rs) (s : State) (p : Byte) (a : Word) :
    (loadedRegisters s p a rs).reg q = s.reg q := by
  induction rs generalizing s a with
  | nil => rfl
  | cons r rs ih =>
    obtain ⟨hne, hrest⟩ := not_or.mp (mt List.mem_cons.mpr hq)
    rw [loadedRegisters, ih hrest, State.setReg_reg, if_neg hne]

/-- Each register of a list without repetition gets the word as far from the first address as it stands in the list. -/
theorem loadedRegisters_getElem {rs : List RegNum} (hd : rs.Nodup) (s : State) (p : Byte) (a : Word) {k : Nat} (hk : k < rs.length) :
    (loadedRegisters s p a rs).reg rs[k] = s.word p (a + BitVec.ofNat 16 k) := by
  induction rs generalizing s a k with
  | nil => exact absurd hk (Nat.not_lt_zero k)
  | cons r rs ih =>
    obtain ⟨hr, hrest⟩ := List.nodup_cons.mp hd
    cases k with
    | zero =>
      rw [loadedRegisters, List.getElem_cons_zero, loadedRegisters_reg_of_not_mem hr, State.setReg_reg, if_pos rfl]
      simp
    | succ k =>
      rw [loadedRegisters, List.getElem_cons_succ, ih hrest, State.setReg_word, next_add]

/-- Registers 0 to 7 get the words 0 to 7 (R94, R322). -/
theorem loadedRegisters_all (s : State) (p : Byte) (a : Word) (q : RegNum) :
    (loadedRegisters s p a (regsUpTo 7)).reg q = s.word p (a + BitVec.ofNat 16 q.toNat) := by
  have hq : (regsUpTo 7)[q.toNat]'q.isLt = q := by revert q; decide
  have h := loadedRegisters_getElem (rs := regsUpTo 7) (by decide) s p a q.isLt
  rwa [hq] at h

/-- Loading registers is an update of the registers. -/
theorem loadedRegisters_eq (s : State) (p : Byte) (a : Word) (rs : List RegNum) :
    loadedRegisters s p a rs = { s with x := (loadedRegisters s p a rs).x } :=
  congrArg (fun t : State => { t with x := (loadedRegisters s p a rs).x }) (loadedRegisters_rest rs s p a)

/-! ### The state after a process load -/

section
variable (s : State) (p : Byte) (d : Word)

@[simp] theorem processLoaded_base : (s.processLoaded p d).base = s.word p (d + 8) := by
  rw [State.processLoaded, State.bracketCache_base]

@[simp] theorem processLoaded_dataPage : (s.processLoaded p d).dataPage = lowByte (s.word p (d + 9)) := by
  rw [State.processLoaded, State.bracketCache_dataPage]
  rfl

@[simp] theorem processLoaded_plat : (s.processLoaded p d).plat = s.plat := by
  rw [State.processLoaded, State.bracketCache_plat, loadedRegisters_plat, State.bracketCache_plat]

@[simp] theorem processLoaded_reaches : (s.processLoaded p d).reaches = s.reaches := by
  unfold State.reaches
  rw [processLoaded_plat]

@[simp] theorem processLoaded_mem : (s.processLoaded p d).mem = s.mem := by
  rw [State.processLoaded, State.bracketCache_mem, loadedRegisters_mem, State.bracketCache_mem]

@[simp] theorem processLoaded_reg (q : RegNum) : (s.processLoaded p d).reg q = s.word p (d + BitVec.ofNat 16 q.toNat) := by
  rw [State.processLoaded, State.bracketCache_reg]
  refine (loadedRegisters_all _ p d q).trans ?_
  rw [State.word, State.bracketCache_mem]
  rfl

@[simp] theorem processLoaded_cacheOn : (s.processLoaded p d).cacheOn = loadedCache s (s.word p (d + 13)) := by
  refine cacheOn_between_brackets (s := { s with umap := insertBits s.umap 0 p }) ?plat ?cache
  case plat => rw [loadedRegisters_plat, State.bracketCache_plat]
  case cache => rw [loadedRegisters_eq]

/-- Every field that a process load leaves, but for the registers and the cache enable (R322). -/
theorem processLoaded_eq :
    s.processLoaded p d =
      { s with
        x := (s.processLoaded p d).x
        cacheOn := (s.processLoaded p d).cacheOn
        level := s.word p (d - 2)
        bound := if (s.word p (d - 2)).toNat % 32768 = 0 then s.word p (d - 1) else 0xFFFF
        base := s.word p (d + 8)
        umap := s.word p (d + 9)
        prog := s.word p (d + 10)
        pc := s.word p (d + 11)
        timer := s.word p (d + 12)
        psw := s.word p (d + 13) } := by
  simp only [← counterZero_iff]
  rw [State.processLoaded, bracketCache_eq, loadedRegisters_eq, bracketCache_eq]

end


/-- The state `t` is that of the process at descriptor address `d` of page `p`, at its location, with no modification; only memory is
left open (R322). -/
def ProcessTaken (s : State) (p : Byte) (d : Word) (t : State) : Prop :=
  let m := fun n : Nat => s.word p (d + BitVec.ofNat 16 n)
  let level := s.word p (d - 2)
  (∀ q : RegNum, t.reg q = m q.toNat) ∧ t.psw = m 13 ∧ t.freeCtr = s.freeCtr ∧ EndsAt t (m 11) ∧
  t.cacheOn = loadedCache s (m 13) ∧
  SpecialsKept
    { s with
      level := level
      bound := if level.toNat % 32768 = 0 then s.word p (d - 1) else 0xFFFF
      base := m 8
      umap := m 9
      prog := m 10
      timer := m 12
      cacheOn := t.cacheOn } t

theorem processTaken_processLoaded (s : State) (p : Byte) (d : Word) :
    ProcessTaken s p d (s.processLoaded p d).clearModification := by
  have hreg := processLoaded_reg s p d
  have hcache := processLoaded_cacheOn s p d
  rw [processLoaded_eq] at hreg hcache ⊢
  exact ⟨hreg, rfl, rfl, ⟨rfl, rfl, rfl⟩, hcache, rfl⟩

/-- Memory may still be written. -/
theorem ProcessTaken.putWord {s t : State} {p : Byte} {d : Word} (h : ProcessTaken s p d t) (q : Byte) (a v : Word) :
    ProcessTaken s p d (t.putWord q a v) := h

/-- Two words of a page written, at different addresses. -/
theorem wordsSet_pair_of_mem {s t : State} {p : Byte} {a b v w : Word} (hab : a ≠ b)
    (h : t.mem = (s.mem.writeWord (wordIndex p a) v).writeWord (wordIndex p b) w) : WordsSet s t p [(a, v), (b, w)] := by
  refine ⟨List.forall_mem_cons.mpr ⟨?first, List.forall_mem_singleton.mpr ?second⟩, fun n hn => ?outside⟩
  case first =>
    have hindex : wordIndex p a ≠ wordIndex p b := fun e => hab ((wordIndex_inj _ _ _ _).mp e).2
    rw [State.word, h, readWord_writeWord, if_neg hindex, readWord_writeWord_same]
  case second => rw [State.word, h, readWord_writeWord_same]
  case outside =>
    obtain ⟨hfirst, hsecond⟩ : n / 2 ≠ wordIndex p a ∧ n / 2 ≠ wordIndex p b := by simpa using hn
    rw [h, readByte_writeWord_outside _ _ _ _ hsecond, readByte_writeWord_outside _ _ _ _ hfirst]

/-! ### LDN and LDP -/

section
variable {i : Instr} {s : State} {o : Operand} {l : Loc} (hl : o.loc s = l) (hr : s.placeReaches l) (hs : s.placeReaches l.succ)
  (hp : s.processReaches (lowByte (s.valueAt l.succ)) (s.valueAt l))
include hl hr hs hp

/-- The whole effect of LDN (R322). -/
theorem processTaken_of_loadUnlinked (he : exec i s = outcome (loadUnlinked o s)) :
    Answers i s fun t => ProcessTaken s (lowByte (s.valueAt l.succ)) (s.valueAt l) t ∧ MemKept s t := by
  subst hl
  refine answers_of he ((loadUnlinked_ok _ _ _).mpr ⟨hr, hs, hp, rfl⟩) ⟨processTaken_processLoaded _ _ _, fun b => ?_⟩
  rw [State.clearModification_mem, processLoaded_mem]

/-- The whole effect of LDP, with the new data page and the new BASE given (R323). -/
theorem processTaken_of_loadLinked {q : Byte} {a : Word} (he : exec i s = outcome (loadLinked o s))
    (hq : (s.processLoaded (lowByte (s.valueAt l.succ)) (s.valueAt l)).dataPage = q)
    (ha : (s.processLoaded (lowByte (s.valueAt l.succ)) (s.valueAt l)).base = a)
    (h14 : s.reaches (.abs q) (a + 14)) (h15 : s.reaches (.abs q) (a + 15)) :
    Answers i s fun t => ProcessTaken s (lowByte (s.valueAt l.succ)) (s.valueAt l) t ∧
      WordsSet s t q [(a + 14, s.base), (a + 15, s.umap)] := by
  subst hl hq ha
  have hne (b : Word) : b + 14 ≠ b + 15 := by simp
  rw [← processLoaded_reaches s (lowByte (s.valueAt (o.loc s).succ)) (s.valueAt (o.loc s))] at h14 h15
  refine answers_of he ((loadLinked_ok _ _ _).mpr ⟨hr, hs, hp, h14, h15, rfl⟩)
    ⟨((processTaken_processLoaded _ _ _).putWord _ _ _).putWord _ _ _, wordsSet_pair_of_mem (hne _) ?_⟩
  rw [State.clearModification_mem, State.putWord_mem, State.putWord_mem, processLoaded_mem]

end

/-- LDN and LDP in the form that takes the descriptor's reference from `l`: a register and the next, or M B0.X3 and the next word. -/
theorem exec_processLoads {s : State} {l : Loc} {r : RegNum} (hl : l = .reg r ∨ l = .data (s.base + s.reg r + s.mod)) :
    ∃ o : Operand, o.loc s = l ∧ exec (if l = .reg r then .ldnR r else .ldnM r) s = outcome (loadUnlinked o s) ∧
      exec (if l = .reg r then .ldpR r else .ldpM r) s = outcome (loadLinked o s) := by
  obtain rfl | rfl := hl
  case inl =>
    rw [if_pos rfl, if_pos rfl]
    exact ⟨.r3 r, rfl, rfl, rfl⟩
  case inr =>
    rw [if_neg nofun, if_neg nofun]
    exact ⟨.b0x3 r, loc_b0x3 s r, rfl, rfl⟩

/-- Settles O43: LDN is the load of the descriptor, LDP that load and then the link in the new data page. -/
theorem loadProcessLoadsTheDescriptor : Obligations.LoadProcessLoadsTheDescriptor := by
  intro s l r hl hr hs d p m level hlevel hbound hwords loaded
  obtain ⟨o, ho, hunlinked, hlinked⟩ := exec_processLoads hl
  have hp : s.processReaches p d := processReaches_of hlevel hbound hwords
  exact ⟨processTaken_of_loadUnlinked ho hr hs hp hunlinked, fun h14 h15 =>
    processTaken_of_loadLinked ho hr hs hp hlinked (processLoaded_dataPage s p d) (processLoaded_base s p d) h14 h15⟩

end Sys2Proof.Machine
end

section
/-! PROOF. Encoding and decoding (30_encoding.md). Each format of R122 is said once, as an equivalence: a word is the word of some fields exactly
where each of its fields is the one given. One direction reads the fields of an instruction's word, the other finds the instruction's word
again from the fields of a word. -/

namespace Sys2Proof

open Machine (lowByte)

/-! ### A word put together from fields -/

theorem append_eq_iff {m n : Nat} (x : BitVec m) (y : BitVec n) (w : BitVec (m + n)) :
    x ++ y = w ↔ w.extractLsb' n m = x ∧ w.extractLsb' 0 n = y := by
  constructor
  · rintro rfl
    exact ⟨BitVec.extractLsb'_append_eq_left, BitVec.extractLsb'_append_eq_right⟩
  · rintro ⟨rfl, rfl⟩
    exact BitVec.extractLsb'_append_extractLsb'

/-- A field that consists of two fields. -/
theorem extractLsb'_eq_append_iff {k m n l : Nat} (x : BitVec k) (y : BitVec m) (w : BitVec l) :
    w.extractLsb' n (k + m) = x ++ y ↔ w.extractLsb' (n + m) k = x ∧ w.extractLsb' n m = y := by
  have hinner {i j : Nat} (h : i + j ≤ k + m) : (w.extractLsb' n (k + m)).extractLsb' i j = w.extractLsb' (n + i) j := by
    ext b hb
    simp [show i + b < k + m by omega, Nat.add_assoc]
  rw [eq_comm, append_eq_iff, hinner (by omega), hinner (by omega), Nat.add_zero]

/-- A field of one bit. -/
theorem extractLsb'_one_eq_iff (w : Word) (n : Nat) (b : BitVec 1) : w.extractLsb' n 1 = b ↔ w.getLsbD n = b.getLsbD 0 := by
  have hone (c : BitVec 1) : c = b ↔ c.getLsbD 0 = b.getLsbD 0 := by revert b c; decide
  rw [hone, BitVec.getLsbD_extractLsb']
  rfl

/-! ### The words of each format (R122) -/

theorem encodeK8_eq_iff (k lo : BitVec 8) (w : Word) : encodeK8 k lo = w ↔ fieldK w = k ∧ lowByte w = lo :=
  append_eq_iff k lo w

theorem encodeXD_eq_iff (x : BitVec 2) (d : BitVec 6) (lo : Byte) (w : Word) :
    encodeXD x d lo = w ↔ (fieldX w = x ∧ fieldD w = d) ∧ lowByte w = lo :=
  (append_eq_iff (x ++ d) lo w).trans (and_congr_left' (extractLsb'_eq_append_iff x d w))

theorem encodeSC_eq_iff (sub c : BitVec 4) (lo : Byte) (w : Word) :
    encodeSC sub c lo = w ↔ (w.extractLsb' 12 4 = sub ∧ fieldC w = c) ∧ lowByte w = lo :=
  (append_eq_iff (sub ++ c) lo w).trans (and_congr_left' (extractLsb'_eq_append_iff sub c w))

theorem encodeRC_eq_iff (a : BitVec 1) (r : RegNum) (c : BitVec 4) (lo : Byte) (w : Word) :
    encodeRC a r c lo = w ↔ ((flagA w = a.getLsbD 0 ∧ fieldF1 w = r) ∧ fieldC w = c) ∧ lowByte w = lo := by
  refine (append_eq_iff (a ++ r ++ c) lo w).trans (and_congr_left' ?_)
  rw [extractLsb'_eq_append_iff, extractLsb'_eq_append_iff, extractLsb'_one_eq_iff]
  rfl

theorem encodeRR_eq_iff (a : BitVec 1) (r : RegNum) (b : BitVec 1) (s : RegNum) (lo : Byte) (w : Word) :
    encodeRR a r b s lo = w ↔
      (((flagA w = a.getLsbD 0 ∧ fieldF1 w = r) ∧ flagB w = b.getLsbD 0) ∧ fieldF2 w = s) ∧ lowByte w = lo := by
  refine (append_eq_iff (a ++ r ++ b ++ s) lo w).trans (and_congr_left' ?_)
  rw [extractLsb'_eq_append_iff, extractLsb'_eq_append_iff, extractLsb'_eq_append_iff, extractLsb'_one_eq_iff, extractLsb'_one_eq_iff]
  rfl

theorem encodeSR_eq_iff (sub : BitVec 4) (b : BitVec 1) (s : RegNum) (lo : Byte) (w : Word) :
    encodeSR sub b s lo = w ↔ ((w.extractLsb' 12 4 = sub ∧ flagB w = b.getLsbD 0) ∧ fieldF2 w = s) ∧ lowByte w = lo := by
  refine (append_eq_iff (sub ++ b ++ s) lo w).trans (and_congr_left' ?_)
  rw [extractLsb'_eq_append_iff, extractLsb'_eq_append_iff, extractLsb'_one_eq_iff]
  rfl

/-! The formats with an operand in the low byte are those with a constant low byte, at the byte that opcode and operand make. -/

theorem encodeXDR3_eq (x : BitVec 2) (d : BitVec 6) (op : BitVec 5) (t : RegNum) : encodeXDR3 x d op t = encodeXD x d (op ++ t) :=
  BitVec.append_assoc
theorem encodeXDR2_eq (x : BitVec 2) (d op : BitVec 6) (q : BitVec 2) : encodeXDR2 x d op q = encodeXD x d (op ++ q) :=
  BitVec.append_assoc
theorem encodeK8R3_eq (k : BitVec 8) (op : BitVec 5) (t : RegNum) : encodeK8R3 k op t = encodeK8 k (op ++ t) := BitVec.append_assoc
theorem encodeK8Q_eq (k : BitVec 8) (op : BitVec 6) (q : BitVec 2) : encodeK8Q k op q = encodeK8 k (op ++ q) := BitVec.append_assoc
theorem encodeBlock_eq (a : BitVec 1) (r : RegNum) (b : BitVec 1) (s : RegNum) (op : BitVec 5) (t : RegNum) :
    encodeBlock a r b s op t = encodeRR a r b s (op ++ t) := BitVec.append_assoc

/-! ### The nibbles of the low byte, by which the maps are laid out (R147, R148, R151) -/

theorem highNibble_eq (w : Word) : w.extractLsb' 4 4 = (lowByte w).extractLsb' 4 4 :=
  (BitVec.extractLsb'_extractLsb'_of_le (by decide)).symm

theorem lowNibble_eq (w : Word) : w.extractLsb' 0 4 = (lowByte w).extractLsb' 0 4 :=
  (BitVec.extractLsb'_extractLsb'_of_le (by decide)).symm

theorem lowByte_eq_iff (w : Word) (lo : Byte) :
    lowByte w = lo ↔ w.extractLsb' 4 4 = lo.extractLsb' 4 4 ∧ w.extractLsb' 0 4 = lo.extractLsb' 0 4 := by
  rw [highNibble_eq, lowNibble_eq]
  constructor
  · rintro rfl
    exact ⟨rfl, rfl⟩
  · rintro ⟨h4, h0⟩
    rw [← BitVec.extractLsb'_append_extractLsb' (w := 4) (len := 4) (x := lowByte w), h4, h0]
    exact BitVec.extractLsb'_append_extractLsb' (w := 4) (len := 4)

theorem fieldT_eq (w : Word) : fieldT w = (w.extractLsb' 0 4).extractLsb' 0 3 :=
  (BitVec.extractLsb'_extractLsb'_of_le (by decide)).symm

theorem fieldQ_eq (w : Word) : fieldQ w = (w.extractLsb' 0 4).extractLsb' 0 2 :=
  (BitVec.extractLsb'_extractLsb'_of_le (by decide)).symm

theorem regNum_cases (t : RegNum) : t = 0 ∨ t = 1 ∨ t = 2 ∨ t = 3 ∨ t = 4 ∨ t = 5 ∨ t = 6 ∨ t = 7 := by revert t; decide

/-! ### The instruction of an instruction's word -/

section
variable (a b : BitVec 1) (r s : RegNum) (x : BitVec 2) (d : BitVec 6) (sub c : BitVec 4) (k lo : Byte)

theorem encodeRR_fields :
    (((flagA (encodeRR a r b s lo) = a.getLsbD 0 ∧ fieldF1 (encodeRR a r b s lo) = r) ∧ flagB (encodeRR a r b s lo) = b.getLsbD 0) ∧
      fieldF2 (encodeRR a r b s lo) = s) ∧ lowByte (encodeRR a r b s lo) = lo := (encodeRR_eq_iff a r b s lo _).mp rfl
theorem encodeRC_fields :
    ((flagA (encodeRC a r c lo) = a.getLsbD 0 ∧ fieldF1 (encodeRC a r c lo) = r) ∧ fieldC (encodeRC a r c lo) = c) ∧
      lowByte (encodeRC a r c lo) = lo := (encodeRC_eq_iff a r c lo _).mp rfl
theorem encodeXD_fields :
    (fieldX (encodeXD x d lo) = x ∧ fieldD (encodeXD x d lo) = d) ∧ lowByte (encodeXD x d lo) = lo :=
  (encodeXD_eq_iff x d lo _).mp rfl
theorem encodeK8_fields : fieldK (encodeK8 k lo) = k ∧ lowByte (encodeK8 k lo) = lo := (encodeK8_eq_iff k lo _).mp rfl
theorem encodeSR_fields :
    (((encodeSR sub b s lo).extractLsb' 12 4 = sub ∧ flagB (encodeSR sub b s lo) = b.getLsbD 0) ∧ fieldF2 (encodeSR sub b s lo) = s) ∧
      lowByte (encodeSR sub b s lo) = lo := (encodeSR_eq_iff sub b s lo _).mp rfl
theorem encodeSC_fields :
    ((encodeSC sub c lo).extractLsb' 12 4 = sub ∧ fieldC (encodeSC sub c lo) = c) ∧ lowByte (encodeSC sub c lo) = lo :=
  (encodeSC_eq_iff sub c lo _).mp rfl

end

theorem twoBits_cases (q : BitVec 2) : q = 0 ∨ q = 1 ∨ q = 2 ∨ q = 3 := by revert q; decide

theorem extractLsb'_eq_fieldF2 (w : Word) : w.extractLsb' 8 3 = fieldF2 w := rfl

theorem flagA_eq_fieldX (w : Word) : flagA w = (fieldX w)[1] := by simp [flagA, fieldX]

theorem bit14_eq_fieldX (w : Word) : w[14] = (fieldX w)[0] := by simp [fieldX]

/-- The instructions with a register, a displacement or a link choice in the low byte. -/
def Instr.operandInLowByte : Instr → Bool
  | .addRB6 _ _ _ | .movB6R _ _ _ | .addB6R _ _ _ | .movRB6 _ _ _ | .movcCn8R _ _ | .movcC8R _ _ | .movB8R _ _ | .movRB8 _ _ | .movP8R _ _ |
    .addcCn8R _ _ | .sob _ _ | .addcC8R _ _ | .mvp _ _ _ | .movlLoad _ _ _ | .movbLoad _ _ _ | .movbStore _ _ _ | .movlStore _ _ _ |
    .jmpLn10 _ _ | .jmpS2Ln8 _ _ | .jmpL10 _ _ | .jmpS2L8 _ _ | .jmpiS2P8 _ _ => true
  | _ => false

theorem decodeSet_encode_of_operandInLowByte {i : Instr} (h : i.operandInLowByte = true) :
    decodeSet i.isAlternative (encode i) = some i := by
  cases i
  case addRB6 t | movB6R t | addB6R t | movRB6 t | movcCn8R t | movcC8R t | movB8R t | movRB8 t | movP8R t | addcCn8R t | sob t |
    addcC8R t =>
    obtain rfl | rfl | rfl | rfl | rfl | rfl | rfl | rfl := regNum_cases t
    all_goals simp [encode, Instr.isAlternative, decodeSet, decodeStandard, standard0, standard1, standard2, standard3, standard4, standard6,
      standard7, standard8, standard9, standardA, standardC, encodeXDR3_eq, encodeK8R3_eq, highNibble_eq, lowNibble_eq, fieldT_eq, encodeXD_fields,
      encodeK8_fields]
  case mvp q | movlLoad q | movbLoad q | movbStore q | movlStore q | jmpLn10 q | jmpL10 q =>
    obtain rfl | rfl | rfl | rfl := twoBits_cases q
    all_goals simp [encode, Instr.isAlternative, decodeSet, decodeStandard, standard2, standard5, standard6, standard7, standard9, standardD,
      encodeXDR2_eq, encodeK8Q_eq, highNibble_eq, lowNibble_eq, fieldQ_eq, encodeXD_fields, encodeK8_fields]
  case jmpS2Ln8 l | jmpS2L8 l | jmpiS2P8 l =>
    cases l
    all_goals simp [encode, Instr.isAlternative, decodeSet, decodeStandard, standard5, standardD, standardF, linkField, encodeK8Q_eq,
      highNibble_eq, lowNibble_eq, encodeK8_fields]
  all_goals exact absurd h Bool.false_ne_true

theorem decodeSet_encode_of_isAlternative {i : Instr} (h : i.isAlternative = true) :
    decodeSet i.isAlternative (encode i) = some i := by
  cases i
  case aamow t | lamow t | almow t | aamob t | lamob t | almob t =>
    obtain rfl | rfl | rfl | rfl | rfl | rfl | rfl | rfl := regNum_cases t
    all_goals simp [encode, Instr.isAlternative, decodeSet, decodeAlternative, alternative8, encodeBlock_eq, highNibble_eq, lowNibble_eq,
      fieldT_eq, encodeRR_fields, byFlags, byFlag, bySecond]
  case aress | arels | amowStore | amowLoad | amobStore | amobLoad | drdR | drdX | dwrR | dwrX | mrdR | mrdX | mwrR | mwrX | rspR | rspX |
    wspR | wspX | arsc | ared =>
    simp [encode, Instr.isAlternative, decodeSet, decodeAlternative, alternative5, alternative9, highNibble_eq, lowNibble_eq, encodeRC_fields,
      encodeRR_fields, extractLsb'_eq_fieldF2, byFlags, byFlag, bySecond]
  all_goals exact absurd h Bool.false_ne_true

theorem decodeSet_encode (i : Instr) : decodeSet i.isAlternative (encode i) = some i := by
  cases i
  case addRB6 | movB6R | addB6R | movRB6 | movcCn8R | movcC8R | movB8R | movRB8 | movP8R | addcCn8R | sob | addcC8R | mvp | movlLoad |
    movbLoad | movbStore | movlStore | jmpLn10 | jmpS2Ln8 | jmpL10 | jmpS2L8 | jmpiS2P8 =>
    exact decodeSet_encode_of_operandInLowByte rfl
  case aress | arels | amowStore | amowLoad | amobStore | amobLoad | drdR | drdX | dwrR | dwrX | mrdR | mrdX | mwrR | mwrX | rspR | rspX |
    wspR | wspX | arsc | ared | aamow | lamow | almow | aamob | lamob | almob =>
    exact decodeSet_encode_of_isAlternative rfl
  case alt | lbr | nmi | cae | cad | tst => rfl
  case sltpRC | sltpXC | sgepRC | sgepXC | slopRC | slopXC | shspRC | shspXC | sltRC | sltXC | sgeRC | sgeXC | sloRC | sloXC | shsRC | shsXC
    | movcCn4X | rels | srlRC | srllRC | sraRC | snepRCn | snepRC | snepXCn | snepXC | seqpRCn | seqpRC | seqpXCn | seqpXC | sneRCn | sneRC
    | sneXCn | sneXC | seqRCn | seqRC | seqXCn | seqXC | movcC4X | ress | srlXC | srllXC | sraXC | sxt | sllRC | slllRC | slcRC | setsRC |
    sbnpRC | jonRLn4 | sbnpXC | jonXLn4 | sbzpRC | jozRLn4 | sbzpXC | jozXLn4 | sbnRC | jonRL4 | sbnXC | jonXL4 | sbzRC | jozRL4 | sbzXC |
    jozXL4 | sllXC | slllXC | slcXC | setsXC | xtrRC | xtrXC =>
    simp [encode, Instr.isAlternative, decodeSet, decodeStandard, standard0, standard1, standard2, standard3, standard4, standard5,
      standard6, standard7, standardA, standardB, standardE, standardF, highNibble_eq, lowNibble_eq, encodeRC_fields, byFlags, byFlag,
      bySecond]
  case mmp | setsR | setsX | clrsR | clrsX | addRR | subRR | andRR | iorRR | incdRR | decdRR | incdXM | decdXM | sioR | cioR | rioR | wioR |
    sltpRR | slopRR | sgepRR | shspRR | snepRR | stcRM | unsRM | seqpRR | movR | adduRR | subuRR | sioX | cioX | rioX | wioX | putX | movm |
    putR | mul | div | xchR | xchX | sltRR | sloRR | sgeRR | shsRR | sneRR | stcXM | unsXM | seqRR | movX =>
    simp [encode, Instr.isAlternative, decodeSet, decodeStandard, standard1, standard5, standard8, standard9, standardB, standardD,
      standardE, standardF, highNibble_eq, lowNibble_eq, encodeRR_fields, byFlags, byFlag, bySecond]
  case jmpiB6 | dec | inc | clr | sozp | sonp | soz | son | modB6 | modnB6 | rpz | jmpP6 | rtm =>
    simp [encode, Instr.isAlternative, decodeSet, decodeStandard, standard1, standard2, standard3, standard5, standardA, standardB,
      standardE, highNibble_eq, lowNibble_eq, encodeXD_fields]
  case modnB8 | modnP8 | jpzi | mod8 | jmpLn8 | modB8 | modP8 | modcCn8 | mod4Cn8 | mon | jmpL8 | modcC8 | mod4C8 | jmpiB8 | jmpiP8 =>
    simp [encode, Instr.isAlternative, decodeSet, decodeStandard, standard1, standard5, standard9, standardA, standardD, standardE,
      standardF, highNibble_eq, lowNibble_eq, encodeK8_fields]
  case ldpR | ldpM | sssR | sssM | dicpR | dicpM | ddcpR | ddcpM | ldnR | ldnM | ldtR | ldtM | swpR | swpM | xcu | xcui | invR | invM | svtR
    | svtM | svsR | svsM | ldsR | ldsM | negR | negM | slsR | slsM | modnR | modnX | svlR | svlM | modR | modX | ldlR | ldlM | cpuR |
    cpuM =>
    simp [encode, Instr.isAlternative, decodeSet, decodeStandard, standardB, highNibble_eq, lowNibble_eq, encodeSR_fields, decodeBC,
      decodeBD, decodeBE, bySecond]
  case trp | svp | jvnLn4 | unsC4 | ldm | stcC4 | jvnL4 =>
    simp [encode, Instr.isAlternative, decodeSet, decodeStandard, standardB, highNibble_eq, lowNibble_eq, encodeSC_fields, decodeBE]
  case xor a f1 f2 =>
    cases a
    all_goals simp [encode, Instr.isAlternative, decodeSet, decodeStandard, standardE, highNibble_eq, lowNibble_eq, encodeRR_fields, byFlags,
      byFlag, bySecond]
  case rtmi d =>
    simp [encode, Instr.isAlternative, decodeSet, decodeStandard, standardE, highNibble_eq, lowNibble_eq, encodeXD_fields, byFlag,
      flagA_eq_fieldX, bit14_eq_fieldX]

theorem Instr.decodesOn_of_existsOn {i : Instr} {cpu : CpuType} (h : i.existsOn cpu = true) : i.decodesOn cpu = true := by
  rw [Instr.decodesOn, h, Bool.true_or]

/-- Settles O1: the instruction's word, read field by field, is looked up at its own place of the map, and the type has the instruction. -/
theorem decodeOfEncode : Obligations.DecodeOfEncode := by
  intro cpu i h
  have hdecodes : i.decodesOn cpu = true := by
    obtain hwf | hdecodes := h
    · exact Instr.decodesOn_of_existsOn (Bool.and_eq_true_iff.mp hwf).1
    · exact hdecodes
  simp [decodeFor, decodeSet_encode, hdecodes]

theorem twoBits_eq_two_iff (x : BitVec 2) : x = 2#2 ↔ x[1] = true ∧ x[0] = false := by revert x; decide

/-- The selector of RTMI, bit by bit. -/
theorem fieldX_eq_two_iff (w : Word) : fieldX w = 2#2 ↔ flagA w = true ∧ w[14] = false := by
  rw [twoBits_eq_two_iff, flagA_eq_fieldX, bit14_eq_fieldX]

/-! ### The word of a word's instruction -/

/-- What a place of the maps answers is an instruction of the set whose word is the word looked up. -/
def Encodes (alternative : Bool) (w : Word) (answer : Option Instr) : Prop :=
  ∀ i, answer = some i → i.isAlternative = alternative ∧ encode i = w

section
variable {alternative : Bool} {w : Word}

@[simp] theorem encodes_none : Encodes alternative w none := by simp [Encodes]

@[simp] theorem encodes_some {i : Instr} : Encodes alternative w (some i) ↔ i.isAlternative = alternative ∧ encode i = w := by
  simp [Encodes]

@[simp] theorem encodes_ite {p : Prop} [Decidable p] {yes no : Option Instr} :
    Encodes alternative w (if p then yes else no) ↔ (p → Encodes alternative w yes) ∧ (¬ p → Encodes alternative w no) := by
  split
  all_goals simp [*]

@[simp] theorem encodes_byFlag {zero one : Option Instr} :
    Encodes alternative w (byFlag w zero one) ↔
      (flagA w = true → Encodes alternative w one) ∧ (flagA w = false → Encodes alternative w zero) := by
  simp [byFlag]

@[simp] theorem encodes_bySecond {zero one : Option Instr} :
    Encodes alternative w (bySecond w zero one) ↔
      (flagB w = true → Encodes alternative w one) ∧ (flagB w = false → Encodes alternative w zero) := by
  simp [bySecond]

end

theorem nibble_cases (n : BitVec 4) :
    n = 0x0 ∨ n = 0x1 ∨ n = 0x2 ∨ n = 0x3 ∨ n = 0x4 ∨ n = 0x5 ∨ n = 0x6 ∨ n = 0x7 ∨
      n = 0x8 ∨ n = 0x9 ∨ n = 0xA ∨ n = 0xB ∨ n = 0xC ∨ n = 0xD ∨ n = 0xE ∨ n = 0xF := by
  revert n
  decide

theorem encodes_standard0 {w : Word} (h4 : w.extractLsb' 4 4 = 0x0) : Encodes false w (standard0 w) := by
  obtain h0 | h0 | h0 | h0 | h0 | h0 | h0 | h0 | h0 | h0 | h0 | h0 | h0 | h0 | h0 | h0 :=
    nibble_cases (w.extractLsb' 0 4)
  all_goals simp +contextual [standard0, h0, h4, encode, Instr.isAlternative, encodeXDR3_eq, encodeRC_eq_iff, encodeXD_eq_iff,
    lowByte_eq_iff, fieldT_eq]

theorem encodes_standard1 {w : Word} (h4 : w.extractLsb' 4 4 = 0x1) : Encodes false w (standard1 w) := by
  obtain h0 | h0 | h0 | h0 | h0 | h0 | h0 | h0 | h0 | h0 | h0 | h0 | h0 | h0 | h0 | h0 :=
    nibble_cases (w.extractLsb' 0 4)
  all_goals simp +contextual [standard1, h0, h4, byFlags, encode, Instr.isAlternative, encodeXDR3_eq, encodeRR_eq_iff, encodeRC_eq_iff,
    encodeXD_eq_iff, encodeK8_eq_iff, lowByte_eq_iff, fieldT_eq]

theorem encodes_standard2 {w : Word} (h4 : w.extractLsb' 4 4 = 0x2) : Encodes false w (standard2 w) := by
  obtain h0 | h0 | h0 | h0 | h0 | h0 | h0 | h0 | h0 | h0 | h0 | h0 | h0 | h0 | h0 | h0 :=
    nibble_cases (w.extractLsb' 0 4)
  all_goals simp +contextual [standard2, h0, h4, encode, Instr.isAlternative, encodeXDR2_eq, encodeK8R3_eq, encodeRC_eq_iff,
    encodeXD_eq_iff, encodeK8_eq_iff, lowByte_eq_iff, fieldT_eq, fieldQ_eq]

theorem encodes_standard3 {w : Word} (h4 : w.extractLsb' 4 4 = 0x3) : Encodes false w (standard3 w) := by
  obtain h0 | h0 | h0 | h0 | h0 | h0 | h0 | h0 | h0 | h0 | h0 | h0 | h0 | h0 | h0 | h0 :=
    nibble_cases (w.extractLsb' 0 4)
  all_goals simp +contextual [standard3, h0, h4, encode, Instr.isAlternative, encodeXDR3_eq, encodeRC_eq_iff, encodeXD_eq_iff,
    lowByte_eq_iff, fieldT_eq]

theorem encodes_standard4 {w : Word} (h4 : w.extractLsb' 4 4 = 0x4) : Encodes false w (standard4 w) := by
  obtain h0 | h0 | h0 | h0 | h0 | h0 | h0 | h0 | h0 | h0 | h0 | h0 | h0 | h0 | h0 | h0 :=
    nibble_cases (w.extractLsb' 0 4)
  all_goals simp +contextual [standard4, h0, h4, encode, Instr.isAlternative, encodeK8R3_eq, encodeRC_eq_iff, encodeK8_eq_iff,
    lowByte_eq_iff, fieldT_eq]

theorem encodes_standard5 {w : Word} (h4 : w.extractLsb' 4 4 = 0x5) : Encodes false w (standard5 w) := by
  obtain h0 | h0 | h0 | h0 | h0 | h0 | h0 | h0 | h0 | h0 | h0 | h0 | h0 | h0 | h0 | h0 :=
    nibble_cases (w.extractLsb' 0 4)
  all_goals simp +contextual [standard5, h0, h4, encode, Instr.isAlternative, encodeK8Q_eq, encodeRR_eq_iff, encodeRC_eq_iff,
    encodeXD_eq_iff, encodeK8_eq_iff, lowByte_eq_iff, fieldQ_eq, linkField]

theorem encodes_standard6 {w : Word} (h4 : w.extractLsb' 4 4 = 0x6) : Encodes false w (standard6 w) := by
  obtain h0 | h0 | h0 | h0 | h0 | h0 | h0 | h0 | h0 | h0 | h0 | h0 | h0 | h0 | h0 | h0 :=
    nibble_cases (w.extractLsb' 0 4)
  all_goals simp +contextual [standard6, h0, h4, encode, Instr.isAlternative, encodeXDR2_eq, encodeK8R3_eq, encodeRC_eq_iff,
    encodeXD_eq_iff, encodeK8_eq_iff, lowByte_eq_iff, fieldT_eq, fieldQ_eq]

theorem encodes_standard7 {w : Word} (h4 : w.extractLsb' 4 4 = 0x7) : Encodes false w (standard7 w) := by
  obtain h0 | h0 | h0 | h0 | h0 | h0 | h0 | h0 | h0 | h0 | h0 | h0 | h0 | h0 | h0 | h0 :=
    nibble_cases (w.extractLsb' 0 4)
  all_goals simp +contextual [standard7, h0, h4, encode, Instr.isAlternative, encodeXDR2_eq, encodeK8R3_eq, encodeRC_eq_iff,
    encodeXD_eq_iff, encodeK8_eq_iff, lowByte_eq_iff, fieldT_eq, fieldQ_eq]

theorem encodes_standard8 {w : Word} (h4 : w.extractLsb' 4 4 = 0x8) : Encodes false w (standard8 w) := by
  obtain h0 | h0 | h0 | h0 | h0 | h0 | h0 | h0 | h0 | h0 | h0 | h0 | h0 | h0 | h0 | h0 :=
    nibble_cases (w.extractLsb' 0 4)
  all_goals simp +contextual [standard8, h0, h4, byFlags, encode, Instr.isAlternative, encodeXDR3_eq, encodeRR_eq_iff, encodeXD_eq_iff,
    lowByte_eq_iff, fieldT_eq]

theorem encodes_standard9 {w : Word} (h4 : w.extractLsb' 4 4 = 0x9) : Encodes false w (standard9 w) := by
  obtain h0 | h0 | h0 | h0 | h0 | h0 | h0 | h0 | h0 | h0 | h0 | h0 | h0 | h0 | h0 | h0 :=
    nibble_cases (w.extractLsb' 0 4)
  all_goals simp +contextual [standard9, h0, h4, byFlags, encode, Instr.isAlternative, encodeXDR2_eq, encodeK8R3_eq, encodeRR_eq_iff,
    encodeXD_eq_iff, encodeK8_eq_iff, lowByte_eq_iff, fieldT_eq, fieldQ_eq]

theorem encodes_standardA {w : Word} (h4 : w.extractLsb' 4 4 = 0xA) : Encodes false w (standardA w) := by
  obtain h0 | h0 | h0 | h0 | h0 | h0 | h0 | h0 | h0 | h0 | h0 | h0 | h0 | h0 | h0 | h0 :=
    nibble_cases (w.extractLsb' 0 4)
  all_goals simp +contextual [standardA, h0, h4, encode, Instr.isAlternative, encodeK8R3_eq, encodeRC_eq_iff, encodeXD_eq_iff,
    encodeK8_eq_iff, lowByte_eq_iff, fieldT_eq]

theorem encodes_standardC {w : Word} (h4 : w.extractLsb' 4 4 = 0xC) : Encodes false w (standardC w) := by
  obtain h0 | h0 | h0 | h0 | h0 | h0 | h0 | h0 | h0 | h0 | h0 | h0 | h0 | h0 | h0 | h0 :=
    nibble_cases (w.extractLsb' 0 4)
  all_goals simp +contextual [standardC, h0, h4, encode, Instr.isAlternative, encodeK8R3_eq, encodeK8_eq_iff, lowByte_eq_iff, fieldT_eq]

theorem encodes_standardD {w : Word} (h4 : w.extractLsb' 4 4 = 0xD) : Encodes false w (standardD w) := by
  obtain h0 | h0 | h0 | h0 | h0 | h0 | h0 | h0 | h0 | h0 | h0 | h0 | h0 | h0 | h0 | h0 :=
    nibble_cases (w.extractLsb' 0 4)
  all_goals simp +contextual [standardD, h0, h4, byFlags, encode, Instr.isAlternative, encodeXDR2_eq, encodeK8Q_eq, encodeRR_eq_iff,
    encodeXD_eq_iff, encodeK8_eq_iff, lowByte_eq_iff, fieldQ_eq, linkField]

theorem encodes_standardF {w : Word} (h4 : w.extractLsb' 4 4 = 0xF) : Encodes false w (standardF w) := by
  obtain h0 | h0 | h0 | h0 | h0 | h0 | h0 | h0 | h0 | h0 | h0 | h0 | h0 | h0 | h0 | h0 :=
    nibble_cases (w.extractLsb' 0 4)
  all_goals simp +contextual [standardF, h0, h4, byFlags, encode, Instr.isAlternative, encodeK8Q_eq, encodeRR_eq_iff, encodeRC_eq_iff,
    encodeK8_eq_iff, lowByte_eq_iff, linkField]

theorem encodes_standardE {w : Word} (h4 : w.extractLsb' 4 4 = 0xE) : Encodes false w (standardE w) := by
  obtain h0 | h0 | h0 | h0 | h0 | h0 | h0 | h0 | h0 | h0 | h0 | h0 | h0 | h0 | h0 | h0 :=
    nibble_cases (w.extractLsb' 0 4)
  all_goals simp +contextual [standardE, h0, h4, byFlags, encode, Instr.isAlternative, encodeRR_eq_iff, encodeRC_eq_iff, encodeXD_eq_iff,
    encodeK8_eq_iff, lowByte_eq_iff, fieldX_eq_two_iff]

theorem encodes_decodeBC {w : Word} (h4 : w.extractLsb' 4 4 = 0xB) (h0 : w.extractLsb' 0 4 = 0xC) : Encodes false w (decodeBC w) := by
  obtain hsub | hsub | hsub | hsub | hsub | hsub | hsub | hsub | hsub | hsub | hsub | hsub | hsub | hsub | hsub | hsub :=
    nibble_cases (w.extractLsb' 12 4)
  all_goals simp +contextual [decodeBC, hsub, h0, h4, encode, Instr.isAlternative, encodeSR_eq_iff, lowByte_eq_iff]

theorem encodes_decodeBD {w : Word} (h4 : w.extractLsb' 4 4 = 0xB) (h0 : w.extractLsb' 0 4 = 0xD) : Encodes false w (decodeBD w) := by
  obtain hsub | hsub | hsub | hsub | hsub | hsub | hsub | hsub | hsub | hsub | hsub | hsub | hsub | hsub | hsub | hsub :=
    nibble_cases (w.extractLsb' 12 4)
  all_goals simp +contextual [decodeBD, hsub, h0, h4, encode, Instr.isAlternative, encodeSR_eq_iff, lowByte_eq_iff]

theorem encodes_decodeBE {w : Word} (h4 : w.extractLsb' 4 4 = 0xB) (h0 : w.extractLsb' 0 4 = 0xE) : Encodes false w (decodeBE w) := by
  obtain hsub | hsub | hsub | hsub | hsub | hsub | hsub | hsub | hsub | hsub | hsub | hsub | hsub | hsub | hsub | hsub :=
    nibble_cases (w.extractLsb' 12 4)
  all_goals simp +contextual [decodeBE, hsub, h0, h4, encode, Instr.isAlternative, encodeSR_eq_iff, encodeSC_eq_iff, lowByte_eq_iff]

theorem encodes_standardB {w : Word} (h4 : w.extractLsb' 4 4 = 0xB) : Encodes false w (standardB w) := by
  obtain h0 | h0 | h0 | h0 | h0 | h0 | h0 | h0 | h0 | h0 | h0 | h0 | h0 | h0 | h0 | h0 :=
    nibble_cases (w.extractLsb' 0 4)
  all_goals simp +contextual [standardB, encodes_decodeBC, encodes_decodeBD, encodes_decodeBE, h0, h4, byFlags, encode, Instr.isAlternative,
    encodeRR_eq_iff, encodeRC_eq_iff, encodeXD_eq_iff, lowByte_eq_iff]

theorem encodes_alternative5 {w : Word} (h4 : w.extractLsb' 4 4 = 0x5) : Encodes true w (alternative5 w) := by
  obtain h0 | h0 | h0 | h0 | h0 | h0 | h0 | h0 | h0 | h0 | h0 | h0 | h0 | h0 | h0 | h0 :=
    nibble_cases (w.extractLsb' 0 4)
  all_goals simp +contextual [alternative5, h0, h4, byFlags, encode, Instr.isAlternative, encodeRR_eq_iff, lowByte_eq_iff, fieldF2]

theorem encodes_alternative8 {w : Word} (h4 : w.extractLsb' 4 4 = 0x8) : Encodes true w (alternative8 w) := by
  obtain h0 | h0 | h0 | h0 | h0 | h0 | h0 | h0 | h0 | h0 | h0 | h0 | h0 | h0 | h0 | h0 :=
    nibble_cases (w.extractLsb' 0 4)
  all_goals simp +contextual [alternative8, h0, h4, byFlags, encode, Instr.isAlternative, encodeBlock_eq, encodeRR_eq_iff, lowByte_eq_iff,
    fieldT_eq, fieldF2]

theorem encodes_alternative9 {w : Word} (h4 : w.extractLsb' 4 4 = 0x9) : Encodes true w (alternative9 w) := by
  obtain h0 | h0 | h0 | h0 | h0 | h0 | h0 | h0 | h0 | h0 | h0 | h0 | h0 | h0 | h0 | h0 :=
    nibble_cases (w.extractLsb' 0 4)
  all_goals simp +contextual [alternative9, h0, h4, byFlags, encode, Instr.isAlternative, encodeRR_eq_iff, encodeRC_eq_iff, lowByte_eq_iff,
    fieldF2]

theorem encodes_decodeStandard (w : Word) : Encodes false w (decodeStandard w) := by
  obtain h4 | h4 | h4 | h4 | h4 | h4 | h4 | h4 | h4 | h4 | h4 | h4 | h4 | h4 | h4 | h4 :=
    nibble_cases (w.extractLsb' 4 4)
  all_goals simp [decodeStandard, h4, encodes_standard0, encodes_standard1, encodes_standard2, encodes_standard3, encodes_standard4,
    encodes_standard5, encodes_standard6, encodes_standard7, encodes_standard8, encodes_standard9, encodes_standardA, encodes_standardB,
    encodes_standardC, encodes_standardD, encodes_standardE, encodes_standardF]

theorem encodes_decodeAlternative (w : Word) : Encodes true w (decodeAlternative w) := by
  obtain h4 | h4 | h4 | h4 | h4 | h4 | h4 | h4 | h4 | h4 | h4 | h4 | h4 | h4 | h4 | h4 :=
    nibble_cases (w.extractLsb' 4 4)
  all_goals simp [decodeAlternative, h4, encodes_alternative5, encodes_alternative8, encodes_alternative9]

theorem encodes_decodeSet (alternative : Bool) (w : Word) : Encodes alternative w (decodeSet alternative w) := by
  cases alternative
  · exact encodes_decodeStandard w
  · exact encodes_decodeAlternative w

/-- Settles O2: at every place of both maps the instruction's word has the fields that the place was found by. -/
theorem encodeOfDecode : Obligations.EncodeOfDecode := by
  intro cpu alternative w i h
  obtain ⟨hset, hdecodes⟩ := Option.filter_eq_some_iff.mp h
  obtain ⟨halternative, hword⟩ := encodes_decodeSet alternative w i hset
  exact ⟨halternative, hdecodes, hword⟩

/-- Settles O3: each word is looked up in the map of its set. -/
theorem wordsOfTheRulesDecode : Obligations.WordsOfTheRulesDecode := by
  refine ⟨?_, ?_, ?_, ?_, ?_, ?_, ?_, ?_, ?_, ?_, ?_, ?_, ?_, ?_⟩
  all_goals rfl

end Sys2Proof
end

section
/-! PROOF. The alternative instructions with an error exit: what ARESS, ARELS, DRD and DWR answer when a transfer of theirs fails, and the first
unit of a block move that fails. -/

namespace Sys2Proof.Machine

/-! ### Places -/

theorem read_failed (s : State) (l : Loc) (a : Word) (k : TransferKind) (hl : l = .data a)
    (h : transferFailure s.plat (.abs s.dataPage) a = some k) :
    s.read l = .error (.fault (.transferError k (.abs s.dataPage) a s)) := by
  subst hl
  exact load_failed s s.dataPage a k h

theorem write_failed (s : State) (l : Loc) (v a : Word) (k : TransferKind) (hl : l = .data a)
    (h : transferFailure s.plat (.abs s.dataPage) a = some k) :
    s.write l v = .error (.fault (.transferError k (.abs s.dataPage) a s)) := by
  subst hl
  exact store_failed s s.dataPage a v k h

/-- A place is read and written, or its transfer fails. -/
theorem placeReaches_or_failed (s : State) (l : Loc) :
    s.placeReaches l ∨ ∃ a k, l = .data a ∧ transferFailure s.plat (.abs s.dataPage) a = some k := by
  cases l with
  | reg r => exact .inl trivial
  | data a =>
    cases h : transferFailure s.plat (.abs s.dataPage) a with
    | none => exact .inl h
    | some k => exact .inr ⟨a, k, rfl, h⟩

/-! ### Absolute semaphores -/

/-- What runs under semaphore protection and fails carries a state with blocking clear. -/
theorem underSemaphore_failed (s : State) (f : State → Run State) (k : TransferKind) (sp : Space) (a : Word) (t : State)
    (h : f { s with semBlock := true } = .error (.fault (.transferError k sp a t))) :
    s.underSemaphore f = .error (.fault (.transferError k sp a { t with semBlock := false })) := by
  simp only [State.underSemaphore, h, transferError]

theorem releaseBit_failed (s : State) (p : Byte) (a : Word) (c : BitVec 4) (k : TransferKind)
    (h : transferFailure s.plat (.abs p) a = some k) :
    releaseBit p a c s = .error (.fault (.transferError k (.abs p) a { s with semBlock := false })) := by
  have hload := load_failed { s with semBlock := true } p a k h
  exact underSemaphore_failed s _ k (.abs p) a { s with semBlock := true } (by rw [hload]; rfl)

theorem reserveBit_failed (s : State) (p : Byte) (a : Word) (c : BitVec 4) (k : TransferKind)
    (h : transferFailure s.plat (.abs p) a = some k) :
    reserveBit p a c s = .error (.fault (.transferError k (.abs p) a { s with semBlock := false })) := by
  have hload := load_failed { s with semBlock := true } p a k h
  exact underSemaphore_failed s _ k (.abs p) a { s with semBlock := true } (by rw [hload]; rfl)

/-- ARESS where the transfers go through (R363). -/
theorem absReserve_reached (f1 : RegNum) (c : BitVec 4) (s : State) (h : s.reaches (.abs (s.pairPage f1)) (s.reg f1)) :
    absReserve f1 c s =
      .ok (if (s.word (s.pairPage f1) (s.reg f1)).getLsbD c.toNat then { s.bracketCache false with semBlock := false }
        else { ((s.bracketCache false).putWord (s.pairPage f1) (s.reg f1)
          (setBit (s.word (s.pairPage f1) (s.reg f1)) c.toNat)).advance 1 with semBlock := false } : State).altEnd := by
  have hbit := (reserveBit_ok (s.pairPage f1) (s.reg f1) c (s.bracketCache false) _).mpr
    ⟨by simpa only [State.bracketCache_reaches] using h, rfl⟩
  simp only [absReserve, State.bracketCache_pairPage, State.bracketCache_reg, hbit, ok_bind, State.bracketCache_word]
  rfl

theorem absReserve_failed (f1 : RegNum) (c : BitVec 4) (s : State) (k : TransferKind)
    (h : transferFailure s.plat (.abs (s.pairPage f1)) (s.reg f1) = some k) :
    absReserve f1 c s = State.errorExit { s.bracketCache false with semBlock := false } k := by
  have hbit := reserveBit_failed (s.bracketCache false) (s.pairPage f1) (s.reg f1) c k (by simpa only [State.bracketCache_plat] using h)
  simp only [absReserve, State.bracketCache_pairPage, State.bracketCache_reg, hbit, error_bind, withErrorExit_failed]

/-- ARELS where the transfers go through (R364). -/
theorem absRelease_reached (f1 : RegNum) (c : BitVec 4) (s : State) (h : s.reaches (.abs (s.pairPage f1)) (s.reg f1)) :
    absRelease f1 c s =
      .ok ({ (s.bracketCache false).putWord (s.pairPage f1) (s.reg f1)
        (clearBit (s.word (s.pairPage f1) (s.reg f1)) c.toNat) with semBlock := false } : State).altEnd := by
  have hbit := (releaseBit_ok (s.pairPage f1) (s.reg f1) c (s.bracketCache false) _).mpr
    ⟨by simpa only [State.bracketCache_reaches] using h, rfl⟩
  simp only [absRelease, State.bracketCache_pairPage, State.bracketCache_reg, hbit, ok_bind, State.bracketCache_word]
  rfl

theorem absRelease_failed (f1 : RegNum) (c : BitVec 4) (s : State) (k : TransferKind)
    (h : transferFailure s.plat (.abs (s.pairPage f1)) (s.reg f1) = some k) :
    absRelease f1 c s = State.errorExit { s.bracketCache false with semBlock := false } k := by
  have hbit := releaseBit_failed (s.bracketCache false) (s.pairPage f1) (s.reg f1) c k (by simpa only [State.bracketCache_plat] using h)
  simp only [absRelease, State.bracketCache_pairPage, State.bracketCache_reg, hbit, error_bind, withErrorExit_failed]

/-! ### Devices -/

/-- The state in which the answer of a transfer is used up. -/
def State.answerTaken (s : State) (k : IoKind) (dev : Word) : State := { s with ioReplies := (takeReply k dev s.ioReplies).2 }

/-- The device address fails. -/
theorem ioTransfer_unreached (s : State) (kind : IoKind) (dev : Word) (k : TransferKind) (h : transferFailure s.plat .io dev = some k) :
    s.ioTransfer kind dev = .error (.fault (.transferError k .io dev s)) := by
  simp only [State.ioTransfer, access_stop s _ _ k h, error_bind]

/-- The device does not answer properly. -/
theorem ioTransfer_unanswered (s : State) (kind : IoKind) (dev : Word) (k : TransferKind) (h : s.reaches .io dev)
    (hreply : (takeReply kind dev s.ioReplies).1 = .failed k) :
    s.ioTransfer kind dev = .error (.fault (.transferError k .io dev (s.answerTaken kind dev))) := by
  have haccess := (access_ok s .io dev ()).mpr h
  simp only [State.ioTransfer, haccess, ok_bind, hreply]
  rfl

/-- A transfer with a device is answered, or its address fails, or the device does not answer properly. -/
theorem ioTransfer_cases (s : State) (kind : IoKind) (dev : Word) :
    (∃ v, s.deviceAnswers kind dev v) ∨ (∃ k, transferFailure s.plat .io dev = some k) ∨
      ∃ k, s.reaches .io dev ∧ (takeReply kind dev s.ioReplies).1 = .failed k := by
  cases hreach : transferFailure s.plat .io dev with
  | some k => exact .inr (.inl ⟨k, rfl⟩)
  | none =>
    cases hreply : (takeReply kind dev s.ioReplies).1 with
    | answered v => exact .inl ⟨v, hreach, hreply⟩
    | failed k => exact .inr (.inr ⟨k, hreach, rfl⟩)

theorem deviceRead_unreached (o : Operand) (f2 : RegNum) (s : State) (k : TransferKind)
    (h : transferFailure s.plat .io (s.device f2) = some k) : deviceRead o f2 s = s.errorExit k := by
  simp only [deviceRead, State.ioRead, ioTransfer_unreached s _ _ k h, error_bind, withErrorExit_failed]

theorem deviceRead_unanswered (o : Operand) (f2 : RegNum) (s : State) (k : TransferKind) (h : s.reaches .io (s.device f2))
    (hreply : (takeReply .drd (s.device f2) s.ioReplies).1 = .failed k) :
    deviceRead o f2 s = (s.answerTaken .drd (s.device f2)).errorExit k := by
  simp only [deviceRead, State.ioRead, ioTransfer_unanswered s _ _ k h hreply, error_bind, withErrorExit_failed]

/-- The device answers, and the store of the word fails. -/
theorem deviceRead_unstored (o : Operand) (f2 : RegNum) (s : State) (v a : Word) (k : TransferKind)
    (hanswer : s.deviceAnswers .drd (s.device f2) v) (ho : o.loc s = .data a)
    (h : transferFailure s.plat (.abs s.dataPage) a = some k) :
    deviceRead o f2 s = (s.transferred .drd (s.device f2) (.ioIn .drd (s.device f2) v)).errorExit k := by
  have hread := (ioRead_ok s .drd (s.device f2) v _).mpr ⟨hanswer, rfl⟩
  have hwrite := write_failed (s.transferred .drd (s.device f2) (.ioIn .drd (s.device f2) v)) (o.loc s) v a k ho h
  simp only [deviceRead, hread, ok_bind, hwrite, error_bind, withErrorExit_failed]

theorem deviceWrite_unread (o : Operand) (f2 : RegNum) (s : State) (a : Word) (k : TransferKind) (ho : o.loc s = .data a)
    (h : transferFailure s.plat (.abs s.dataPage) a = some k) : deviceWrite o f2 s = s.errorExit k := by
  have hread := read_failed s (o.loc s) a k ho h
  simp only [deviceWrite, hread, error_bind, withErrorExit_failed]

theorem deviceWrite_unreached (o : Operand) (f2 : RegNum) (s : State) (k : TransferKind) (ho : s.placeReaches (o.loc s))
    (h : transferFailure s.plat .io (s.device f2) = some k) : deviceWrite o f2 s = s.errorExit k := by
  have hread := (read_ok s (o.loc s) _).mpr ⟨ho, rfl⟩
  simp only [deviceWrite, hread, ok_bind, State.ioWrite, ioTransfer_unreached s _ _ k h, error_bind, withErrorExit_failed]

theorem deviceWrite_unanswered (o : Operand) (f2 : RegNum) (s : State) (k : TransferKind) (ho : s.placeReaches (o.loc s))
    (h : s.reaches .io (s.device f2)) (hreply : (takeReply .dwr (s.device f2) s.ioReplies).1 = .failed k) :
    deviceWrite o f2 s = (s.answerTaken .dwr (s.device f2)).errorExit k := by
  have hread := (read_ok s (o.loc s) _).mpr ⟨ho, rfl⟩
  simp only [deviceWrite, hread, ok_bind, State.ioWrite, ioTransfer_unanswered s _ _ k h hreply, error_bind, withErrorExit_failed]

/-! ### Block moves -/

/-- The units before the end of the count all answer, or there is a first that fails. -/
theorem units_answer_or_first_fails (fails : State → Option TransferKind) (unit : State → State) (c : RegNum) (s : State) (n : Nat) :
    (∀ m < n, CountLasts unit c s m → fails (unit^[m] s) = none) ∨
      ∃ m k, m < n ∧ CountLasts unit c s m ∧ (∀ j < m, fails (unit^[j] s) = none) ∧ fails (unit^[m] s) = some k := by
  by_cases hall : ∀ m < n, CountLasts unit c s m → fails (unit^[m] s) = none
  · exact .inl hall
  · have hsome : ∃ m, m < n ∧ CountLasts unit c s m ∧ fails (unit^[m] s) ≠ none := by simpa using hall
    classical
    obtain ⟨hlt, hcount, hfails⟩ := Nat.find_spec hsome
    obtain ⟨k, hk⟩ := Option.ne_none_iff_exists'.mp hfails
    refine .inr ⟨Nat.find hsome, k, hlt, hcount, fun j hj => ?_, hk⟩
    by_contra hne
    exact Nat.find_min hsome hj ⟨hj.trans hlt, fun i hi => hcount i (hi.trans hj.le), hne⟩

end Sys2Proof.Machine
end

section
/-! PROOF. What every instruction leaves unchanged: the invariant of the machine (O6), the writers of the special registers (O8) and of the
arithmetic flags (O9), and the end of the modification (O10). An operation keeps what `Kept` says; an instruction that writes a special
register keeps it from the state in which that register already has its new value. -/

namespace Sys2Proof.Machine

/-! ### What an operation keeps -/

/-- The state with the parts of another that most operations may change: registers, LOC, modification, PSW, cache enable, semaphore
blocking, NMI wait, memory, devices, trace and free values. -/
def State.withVolatileOf (t s : State) : State :=
  { t with x := s.x, pc := s.pc, mod := s.mod, modified := s.modified, psw := s.psw, cacheOn := s.cacheOn, semBlock := s.semBlock,
           awaitingNmi := s.awaitingNmi, mem := s.mem, ioReplies := s.ioReplies, trace := s.trace, freeCtr := s.freeCtr }

/-- What most operations keep: the special registers, map memory, the word of an XCU and the platform; the arithmetic flags; the canonical
form of memory; semaphore blocking being clear. -/
structure Kept (s t : State) : Prop where
  rest : t.withVolatileOf s = s
  flags : t.psw.extractLsb' 4 4 = s.psw.extractLsb' 4 4
  memory : s.mem.wf = true → t.mem.wf = true
  blocking : s.semBlock = false → t.semBlock = false

/-- What an ordinary instruction keeps, the modification cleared. -/
structure Ordinary (s t : State) : Prop extends Kept s t where
  mod : t.mod = 0
  modified : t.modified = false

namespace Kept

variable {s t u : State}

theorem plat (h : Kept s t) : t.plat = s.plat := (congrArg State.plat h.rest :)
theorem base (h : Kept s t) : t.base = s.base := (congrArg State.base h.rest :)
theorem prog (h : Kept s t) : t.prog = s.prog := (congrArg State.prog h.rest :)
theorem timer (h : Kept s t) : t.timer = s.timer := (congrArg State.timer h.rest :)
theorem bound (h : Kept s t) : t.bound = s.bound := (congrArg State.bound h.rest :)
theorem level (h : Kept s t) : t.level = s.level := (congrArg State.level h.rest :)
theorem umap (h : Kept s t) : t.umap = s.umap := (congrArg State.umap h.rest :)
theorem spm (h : Kept s t) : t.spm = s.spm := (congrArg State.spm h.rest :)
theorem mapMem (h : Kept s t) : t.mapMem = s.mapMem := (congrArg State.mapMem h.rest :)
theorem instr (h : Kept s t) : t.instr = s.instr := (congrArg State.instr h.rest :)

theorem refl (s : State) : Kept s s := ⟨rfl, rfl, id, id⟩

theorem trans (h : Kept s t) (h' : Kept t u) : Kept s u where
  rest := (congrArg (·.withVolatileOf s) h'.rest).trans h.rest
  flags := h'.flags.trans h.flags
  memory hs := h'.memory (h.memory hs)
  blocking hs := h'.blocking (h.blocking hs)

/-! One lemma for each named update of the state. -/

theorem setReg (h : Kept s t) (r : RegNum) (v : Word) : Kept s (t.setReg r v) := h.trans ⟨rfl, rfl, id, id⟩
theorem putWord (h : Kept s t) (p : Byte) (a v : Word) : Kept s (t.putWord p a v) := h.trans ⟨rfl, rfl, wf_writeWord _ _ _, id⟩
theorem putByte (h : Kept s t) (p : Byte) (a : Nat) (v : Byte) : Kept s (t.putByte p a v) := h.trans ⟨rfl, rfl, wf_writeByte _ _ _, id⟩
theorem emit (h : Kept s t) (e : Event) : Kept s (t.emit e) := h.trans ⟨rfl, rfl, id, id⟩
theorem drawn (h : Kept s t) (n : Nat) : Kept s (t.drawn n) := h.trans ⟨rfl, rfl, id, id⟩
theorem transferred (h : Kept s t) (k : IoKind) (dev : Word) (e : Event) : Kept s (t.transferred k dev e) := h.trans ⟨rfl, rfl, id, id⟩
theorem answerTaken (h : Kept s t) (k : IoKind) (dev : Word) : Kept s (t.answerTaken k dev) := h.trans ⟨rfl, rfl, id, id⟩
theorem unblocked (h : Kept s t) : Kept s { t with semBlock := false } := h.trans ⟨rfl, rfl, id, fun _ => rfl⟩
theorem clearModification (h : Kept s t) : Kept s t.clearModification := h.trans ⟨rfl, rfl, id, id⟩
theorem advance (h : Kept s t) (n : Word) : Kept s (t.advance n) := h.trans ⟨rfl, rfl, id, id⟩

theorem putAt (h : Kept s t) (l : Loc) (v : Word) : Kept s (t.putAt l v) := by
  cases l with
  | reg r => exact h.setReg r v
  | data a => exact h.putWord t.dataPage a v

theorem bracketCache (h : Kept s t) (b : Bool) : Kept s (t.bracketCache b) := by
  unfold State.bracketCache
  split
  · exact h.trans ⟨rfl, rfl, id, id⟩
  · exact h

/-- A field put in the PSW outside bits 7:4. -/
theorem insertPsw {n : Nat} (h : Kept s t) (lo : Nat) (v : BitVec n) (hout : lo + n ≤ 4 ∨ 8 ≤ lo) :
    Kept s { t with psw := insertBits t.psw lo v } := by
  refine h.trans ⟨rfl, ?_, id, id⟩
  ext i hi
  simp only [BitVec.getElem_extractLsb']
  exact getLsbD_insertBits_outside _ _ _ _ (by omega)

/-- SET CONDITION CODES keeps what it did, but for the PSW. -/
theorem setCC (h : Kept s t) (c v : Bool) : Kept { s with psw := (t.setCC c v).psw } (t.setCC c v) :=
  ⟨(congrArg (fun u : State => { u with psw := (t.setCC c v).psw }) h.rest :), rfl, h.memory, h.blocking⟩

theorem setPg (h : Kept s t) (b : Bool) : Kept s (t.setPg b) := h.insertPsw 0 _ (by decide)
theorem setAlt (h : Kept s t) (b : Bool) : Kept s (t.setAlt b) := h.insertPsw 12 _ (by decide)
theorem setMask (h : Kept s t) (m : BitVec 2) : Kept s (t.setMask m) := h.insertPsw 14 _ (by decide)

theorem loadedRegisters (h : Kept s t) (p : Byte) (a : Word) (rs : List RegNum) : Kept s (loadedRegisters t p a rs) := by
  induction rs generalizing t a with
  | nil => exact h
  | cons r rs ih => exact ih (h.setReg r _) (a + 1)

theorem storedWords (h : Kept s t) (p : Byte) (a : Word) (vs : List Word) : Kept s (storedWords t p a vs) := by
  induction vs generalizing t a with
  | nil => exact h
  | cons v vs ih => exact ih (h.putWord p a v) (a + 1)

theorem processSaved (h : Kept s t) (p : Byte) (a cont : Word) : Kept s (t.processSaved p a cont) := by
  unfold State.processSaved
  have hwords := (h.storedWords p a (t.descriptor cont)).putWord p (a - 2) t.level
  split
  · exact hwords.putWord p (a - 1) t.bound
  · exact hwords

theorem wordsMoved (h : Kept s t) (f1 f2 : RegNum) (n : Nat) : Kept s (wordsMoved f1 f2 n t) := by
  induction n generalizing t with
  | zero => exact h
  | succ n ih => exact ih (((h.putWord _ _ _).setReg f1 _).setReg f2 _)

theorem registersStacked (h : Kept s t) (rs : List RegNum) : Kept s (registersStacked rs t) := by
  induction rs generalizing t with
  | nil => exact h
  | cons r rs ih => exact ih ((h.setReg 7 _).putWord _ _ _)

theorem wordMoved (h : Kept s t) (src dst : State → Byte × Word) (f1 f2 c : RegNum) : Kept s (wordMoved src dst f1 f2 c t) :=
  (((h.putWord _ _ _).setReg f1 _).setReg f2 _).setReg c _

theorem byteMoved (h : Kept s t) (src dst : State → Byte × Nat) (f1 f2 c : RegNum) : Kept s (byteMoved src dst f1 f2 c t) :=
  (((((h.putByte _ _ _).setReg f1 _).setReg _ _).setReg f2 _).setReg _ _).setReg c _

theorem ordinary (h : Kept s t) (h' : Ordinary t u) : Ordinary s u := ⟨h.trans h'.toKept, h'.mod, h'.modified⟩

/-! The ends of an instruction, all of which clear the modification. -/

theorem finish (h : Kept s t) : Ordinary s t.finish := ⟨h.clearModification.advance 1, rfl, rfl⟩
theorem jumpTo (h : Kept s t) (a : Word) : Ordinary s (t.jumpTo a) := ⟨h.trans ⟨rfl, rfl, id, id⟩, rfl, rfl⟩
theorem skip (h : Kept s t) (c pair : Bool) : Ordinary s (t.skip c pair) := ⟨h.clearModification.advance _, rfl, rfl⟩
theorem altReturn (h : Kept s t) (n : Word) : Ordinary s (t.altReturn n) := ⟨(h.clearModification.setAlt false).advance n, rfl, rfl⟩
theorem altEnd (h : Kept s t) : Ordinary s t.altEnd := (h.bracketCache true).altReturn 2

/-- The error exit (R386). -/
theorem errorExit (h : Kept s t) {k : TransferKind} (hexit : t.errorExit k = .ok u) : Ordinary s u := by
  obtain ⟨-, -, rfl⟩ := (errorExit_ok t k u).mp hexit
  exact (((h.putWord _ _ _).putWord _ _ _).setMask 3).altReturn 1

end Kept

/-! ### Ordinary operations -/

section
variable {s t : State} {o o1 o2 : Operand} {f1 f2 r : RegNum} {c : BitVec 4} {a v : Word} {p : Byte}

theorem skipConstant_ordinary {rel : Word → Word → Bool} {want pair : Bool}
    (h : outcome (skipConstant rel want pair o v s) = .next t) : Ordinary s t := by
  obtain ⟨-, rfl⟩ := (skipConstant_ok ..).mp ((outcome_next ..).mp h)
  exact (Kept.refl s).skip ..

theorem skipZero_ordinary {zero pair : Bool} (h : outcome (skipZero zero pair o s) = .next t) : Ordinary s t := by
  obtain ⟨-, rfl⟩ := (skipZero_ok ..).mp ((outcome_next ..).mp h)
  exact (Kept.refl s).skip ..

theorem skipBit_ordinary {want pair : Bool} (h : outcome (skipBit want pair o c s) = .next t) : Ordinary s t := by
  obtain ⟨-, rfl⟩ := (skipBit_ok ..).mp ((outcome_next ..).mp h)
  exact (Kept.refl s).skip ..

theorem skipCompare_ordinary {rel : Word → Word → Bool} {want pair : Bool}
    (h : outcome (skipCompare rel want pair o1 o2 s) = .next t) : Ordinary s t := by
  obtain ⟨-, -, rfl⟩ := (skipCompare_ok ..).mp ((outcome_next ..).mp h)
  exact (Kept.refl s).skip ..

theorem moveValue_ordinary (h : outcome (moveValue v o s) = .next t) : Ordinary s t := by
  obtain ⟨-, rfl⟩ := (moveValue_ok ..).mp ((outcome_next ..).mp h)
  exact ((Kept.refl s).putAt ..).finish

theorem move_ordinary (h : outcome (move o1 o2 s) = .next t) : Ordinary s t := by
  obtain ⟨-, -, rfl⟩ := (move_ok ..).mp ((outcome_next ..).mp h)
  exact ((Kept.refl s).putAt ..).finish

theorem moveProgram_ordinary (h : outcome (moveProgram p a r s) = .next t) : Ordinary s t := by
  obtain ⟨-, rfl⟩ := (moveProgram_ok ..).mp ((outcome_next ..).mp h)
  exact ((Kept.refl s).setReg ..).finish

theorem moveByteIn_ordinary {ba : Nat} (h : outcome (moveByteIn ba r s) = .next t) : Ordinary s t := by
  obtain ⟨-, rfl⟩ := (moveByteIn_ok ..).mp ((outcome_next ..).mp h)
  exact ((Kept.refl s).setReg ..).finish

theorem moveByteOut_ordinary {ba : Nat} (h : outcome (moveByteOut r ba s) = .next t) : Ordinary s t := by
  obtain ⟨-, rfl⟩ := (moveByteOut_ok ..).mp ((outcome_next ..).mp h)
  exact ((Kept.refl s).putByte ..).finish

theorem moveLongIn_ordinary (h : outcome (moveLongIn a r s) = .next t) : Ordinary s t := by
  obtain ⟨-, -, rfl⟩ := (moveLongIn_ok ..).mp ((outcome_next ..).mp h)
  exact (((Kept.refl s).setReg ..).setReg ..).finish

theorem moveLongOut_ordinary (h : outcome (moveLongOut r a s) = .next t) : Ordinary s t := by
  obtain ⟨-, -, rfl⟩ := (moveLongOut_ok ..).mp ((outcome_next ..).mp h)
  exact (((Kept.refl s).putWord ..).putWord ..).finish

theorem moveMultiple_ordinary (h : outcome (moveMultiple f1 f2 s) = .next t) : Ordinary s t := by
  obtain ⟨u, hwords, hend⟩ := (bind_ok ..).mp ((outcome_next ..).mp h)
  obtain rfl := (pure_ok ..).mp hend
  rw [moveWords_of_ok _ _ _ _ _ hwords]
  exact ((Kept.refl s).wordsMoved ..).finish

theorem put_ordinary (h : outcome (put o f2 s) = .next t) : Ordinary s t := by
  obtain ⟨-, -, rfl⟩ := (put_ok ..).mp ((outcome_next ..).mp h)
  exact ((Kept.refl s).putWord ..).finish

theorem exchange_ordinary (h : outcome (exchange o1 o2 s) = .next t) : Ordinary s t := by
  obtain ⟨-, -, rfl⟩ := (exchange_ok ..).mp ((outcome_next ..).mp h)
  exact (((Kept.refl s).putAt ..).putAt ..).finish

theorem stackValue_ordinary (h : outcome (stackValue o f2 s) = .next t) : Ordinary s t := by
  obtain ⟨-, -, rfl⟩ := (stackValue_ok ..).mp ((outcome_next ..).mp h)
  exact (((Kept.refl s).setReg ..).putWord ..).finish

theorem unstackValue_ordinary (h : outcome (unstackValue o f2 s) = .next t) : Ordinary s t := by
  obtain ⟨-, -, rfl⟩ := (unstackValue_ok ..).mp ((outcome_next ..).mp h)
  exact (((Kept.refl s).putAt ..).setReg ..).finish

theorem stackMany_ordinary (h : outcome (stackMany c s) = .next t) : Ordinary s t := by
  have hrun := (outcome_next ..).mp h
  unfold stackMany at hrun
  split at hrun
  · exact nomatch hrun
  · obtain ⟨u, hstacked, hend⟩ := (bind_ok ..).mp hrun
    obtain rfl := (pure_ok ..).mp hend
    rw [stackRegisters_of_ok _ _ _ hstacked]
    exact ((Kept.refl s).registersStacked ..).finish

theorem unstackMany_ordinary (h : outcome (unstackMany c s) = .next t) : Ordinary s t := by
  obtain ⟨-, -, rfl⟩ := (unstackMany_ok ..).mp ((outcome_next ..).mp h)
  exact (((Kept.refl s).setReg ..).loadedRegisters ..).finish

theorem jumpIndirect_ordinary (h : outcome (jumpIndirect p a s) = .next t) : Ordinary s t := by
  obtain ⟨-, rfl⟩ := (jumpIndirect_ok ..).mp ((outcome_next ..).mp h)
  exact (Kept.refl s).jumpTo _

theorem jumpNoOverflow_ordinary : Ordinary s (jumpNoOverflow v s) := by
  unfold jumpNoOverflow
  split
  · exact (Kept.refl s).finish
  · exact (Kept.refl s).jumpTo _

theorem subtractAndBranch_ordinary : Ordinary s (subtractAndBranch r v s) := by
  unfold subtractAndBranch
  have hreg := (Kept.refl s).setReg r (s.reg r - 1)
  dsimp only
  split
  · exact hreg.finish
  · exact hreg.jumpTo _

theorem logic_ordinary {f : Word → Word → Word} (h : outcome (logic f o1 o2 s) = .next t) : Ordinary s t := by
  obtain ⟨-, -, rfl⟩ := (logic_ok ..).mp ((outcome_next ..).mp h)
  exact ((Kept.refl s).putAt ..).finish

theorem update_ordinary {f : Word → Word} (h : outcome (update f o s) = .next t) : Ordinary s t := by
  obtain ⟨-, rfl⟩ := (update_ok ..).mp ((outcome_next ..).mp h)
  exact ((Kept.refl s).putAt ..).finish

theorem clear_ordinary (h : outcome (clear o s) = .next t) : Ordinary s t := by
  obtain ⟨-, rfl⟩ := (clear_ok ..).mp ((outcome_next ..).mp h)
  exact ((Kept.refl s).putAt ..).finish

theorem updateBoth_ordinary {f : Word → Word} (h : outcome (updateBoth f o1 o2 s) = .next t) : Ordinary s t := by
  obtain ⟨-, -, rfl⟩ := (updateBoth_ok ..).mp ((outcome_next ..).mp h)
  exact (((Kept.refl s).putAt ..).putAt ..).finish

theorem updatePair_ordinary {f : Word → Word} (h : outcome (updatePair f o s) = .next t) : Ordinary s t := by
  obtain ⟨-, -, rfl⟩ := (updatePair_ok ..).mp ((outcome_next ..).mp h)
  exact (((Kept.refl s).putAt ..).putAt ..).finish

theorem multiply_ordinary (h : outcome (multiply o f2 s) = .next t) : Ordinary s t := by
  obtain ⟨-, -, -, rfl⟩ := (multiply_ok ..).mp ((outcome_next ..).mp h)
  exact (((Kept.refl s).putWord ..).putWord ..).finish

theorem divide_ordinary (h : outcome (divide o r s) = .next t) : Ordinary s t := by
  obtain ⟨-, rfl⟩ := (divide_ok ..).mp ((outcome_next ..).mp h)
  split
  · exact ((((Kept.refl s).setReg ..).setReg ..).drawn 2).finish
  · exact (((Kept.refl s).setReg ..).setReg ..).finish

theorem shift_ordinary {f : Word → Nat → Word} (h : outcome (shift f o c s) = .next t) : Ordinary s t := by
  obtain ⟨-, rfl⟩ := (shift_ok ..).mp ((outcome_next ..).mp h)
  exact ((Kept.refl s).putAt ..).finish

theorem shiftLong_ordinary {f : BitVec 32 → Nat → BitVec 32} (h : outcome (shiftLong f o c s) = .next t) : Ordinary s t := by
  obtain ⟨-, -, rfl⟩ := (shiftLong_ok ..).mp ((outcome_next ..).mp h)
  exact (((Kept.refl s).putAt ..).putAt ..).finish

theorem changeBit_ordinary {f : Word → Nat → Word} (h : outcome (changeBit f o1 o2 s) = .next t) : Ordinary s t := by
  obtain ⟨-, -, rfl⟩ := (changeBit_ok ..).mp ((outcome_next ..).mp h)
  exact ((Kept.refl s).putAt ..).finish

theorem changeBitConstant_ordinary {f : Word → Nat → Word} (h : outcome (changeBitConstant f o1 c s) = .next t) : Ordinary s t := by
  obtain ⟨-, rfl⟩ := (changeBitConstant_ok ..).mp ((outcome_next ..).mp h)
  exact ((Kept.refl s).putAt ..).finish

theorem input_ordinary {k : IoKind} (h : outcome (input k o f1 s) = .next t) : Ordinary s t := by
  obtain ⟨v, -, -, rfl⟩ := (input_ok ..).mp ((outcome_next ..).mp h)
  exact (((Kept.refl s).transferred ..).putAt ..).finish

theorem output_ordinary {k : IoKind} (h : outcome (output k o f1 s) = .next t) : Ordinary s t := by
  obtain ⟨-, -, rfl⟩ := (output_ok ..).mp ((outcome_next ..).mp h)
  exact ((Kept.refl s).transferred ..).finish

theorem saveValue_ordinary (h : outcome (saveValue v o s) = .next t) : Ordinary s t := by
  obtain ⟨-, rfl⟩ := (saveValue_ok ..).mp ((outcome_next ..).mp h)
  exact ((Kept.refl s).putAt ..).finish

theorem saveOwnProcess_ordinary (h : outcome (saveOwnProcess c s) = .next t) : Ordinary s t := by
  obtain ⟨-, rfl⟩ := (saveOwnProcess_ok ..).mp ((outcome_next ..).mp h)
  exact (((Kept.refl s).processSaved ..).setMask 3).finish

theorem notify_ordinary (h : outcome (notify o s) = .next t) : Ordinary s t := by
  obtain ⟨-, rfl⟩ := (notify_ok ..).mp ((outcome_next ..).mp h)
  exact ((Kept.refl s).emit _).finish

theorem nonMaskable_ordinary (h : outcome (nonMaskable s) = .next t) : Ordinary s t := by
  obtain ⟨-, -, -, -, -, rfl⟩ := (nonMaskable_ok ..).mp ((outcome_next ..).mp h)
  have hsaved := ((((Kept.refl s).emit .issueNmi).clearModification.processSaved (lowByte (s.word 0xFF (s.nmiReference + 1)))
    (s.word 0xFF s.nmiReference) (s.pc + 1)).putWord (lowByte (s.word 0xFF (s.nmiReference + 1)))
    (s.word 0xFF s.nmiReference + 16) (zext s.spm)).putWord (lowByte (s.word 0xFF (s.nmiReference + 1)))
    (s.word 0xFF s.nmiReference + 17) 8
  have hrest := processSaved_rest (s.emit .issueNmi).clearModification (lowByte (s.word 0xFF (s.nmiReference + 1)))
    (s.word 0xFF s.nmiReference) (s.pc + 1)
  exact ⟨hsaved.trans ⟨rfl, rfl, id, id⟩, (congrArg State.mod hrest :), (congrArg State.modified hrest :)⟩

theorem setCache_kept (b : Bool) : Kept s (s.setCache b) := by
  unfold State.setCache
  split
  · exact Kept.refl s
  · exact ⟨rfl, rfl, id, id⟩

theorem mapRead_ordinary (h : outcome (mapRead o f2 s) = .next t) : Ordinary s t := by
  have hrun := (outcome_next ..).mp h
  by_cases hcpu : s.plat.cpu = .type8
  · rw [mapRead, if_pos hcpu] at hrun
    exact nomatch hrun
  · obtain ⟨-, -, rfl⟩ := (mapRead_ok _ _ _ _ hcpu).mp hrun
    exact ((Kept.refl s).putAt ..).altReturn 1

theorem readSystemMap_ordinary (h : outcome (readSystemMap o s) = .next t) : Ordinary s t := by
  obtain ⟨-, rfl⟩ := (readSystemMap_ok ..).mp ((outcome_next ..).mp h)
  exact ((Kept.refl s).putAt ..).altReturn 1

theorem readSyndrome_ordinary (h : outcome (readSyndrome f1 f2 s) = .next t) : Ordinary s t := by
  obtain ⟨-, rfl⟩ := (readSyndrome_ok ..).mp ((outcome_next ..).mp h)
  exact (((Kept.refl s).setReg ..).putWord ..).unblocked.altReturn 1

theorem readUncorrected_ordinary (h : outcome (readUncorrected f1 f2 s) = .next t) : Ordinary s t := by
  obtain ⟨-, rfl⟩ := (readUncorrected_ok ..).mp ((outcome_next ..).mp h)
  exact ((Kept.refl s).setReg ..).altReturn 1

/-! Those with an error exit end by it, or as their body does. -/

theorem absLoadWord_ordinary (h : outcome (absLoadWord f1 f2 s) = .next t) : Ordinary s t := by
  have hrun := (outcome_next ..).mp h
  cases hreach : transferFailure s.plat (.abs (s.pairPage f1)) (s.reg f1) with
  | none =>
    obtain rfl := (ok_ok ..).mp ((absLoadWord_reached f1 f2 s hreach).symm.trans hrun)
    exact (((Kept.refl s).bracketCache false).setReg ..).altEnd
  | some k => exact ((Kept.refl s).bracketCache false).errorExit ((absLoadWord_failed f1 f2 s k hreach).symm.trans hrun)

theorem absStoreWord_ordinary (h : outcome (absStoreWord f1 f2 s) = .next t) : Ordinary s t := by
  have hrun := (outcome_next ..).mp h
  cases hreach : transferFailure s.plat (.abs (s.pairPage f1)) (s.reg f1) with
  | none =>
    obtain rfl := (ok_ok ..).mp ((absStoreWord_reached f1 f2 s hreach).symm.trans hrun)
    exact (((Kept.refl s).bracketCache false).putWord ..).altEnd
  | some k => exact ((Kept.refl s).bracketCache false).errorExit ((absStoreWord_failed f1 f2 s k hreach).symm.trans hrun)

theorem absLoadByte_ordinary (h : outcome (absLoadByte f1 f2 s) = .next t) : Ordinary s t := by
  have hrun := (outcome_next ..).mp h
  cases hreach : transferFailure s.plat (.abs (s.pairPage f1)) (byteWord (s.absByteAddress f1)) with
  | none =>
    obtain rfl := (ok_ok ..).mp ((absLoadByte_reached f1 f2 s hreach).symm.trans hrun)
    exact (((Kept.refl s).bracketCache false).setReg ..).altEnd
  | some k => exact ((Kept.refl s).bracketCache false).errorExit ((absLoadByte_failed f1 f2 s k hreach).symm.trans hrun)

theorem absStoreByte_ordinary (h : outcome (absStoreByte f1 f2 s) = .next t) : Ordinary s t := by
  have hrun := (outcome_next ..).mp h
  cases hreach : transferFailure s.plat (.abs (s.pairPage f1)) (byteWord (s.absByteAddress f1)) with
  | none =>
    obtain rfl := (ok_ok ..).mp ((absStoreByte_reached f1 f2 s hreach).symm.trans hrun)
    exact (((Kept.refl s).bracketCache false).putByte ..).altEnd
  | some k => exact ((Kept.refl s).bracketCache false).errorExit ((absStoreByte_failed f1 f2 s k hreach).symm.trans hrun)

theorem absReserve_ordinary (h : outcome (absReserve f1 c s) = .next t) : Ordinary s t := by
  have hrun := (outcome_next ..).mp h
  have hbracket := (Kept.refl s).bracketCache false
  cases hreach : transferFailure s.plat (.abs (s.pairPage f1)) (s.reg f1) with
  | none =>
    obtain rfl := (ok_ok ..).mp ((absReserve_reached f1 c s hreach).symm.trans hrun)
    split
    · exact hbracket.unblocked.altEnd
    · exact ((hbracket.putWord ..).advance 1).unblocked.altEnd
  | some k => exact hbracket.unblocked.errorExit ((absReserve_failed f1 c s k hreach).symm.trans hrun)

theorem absRelease_ordinary (h : outcome (absRelease f1 c s) = .next t) : Ordinary s t := by
  have hrun := (outcome_next ..).mp h
  have hbracket := (Kept.refl s).bracketCache false
  cases hreach : transferFailure s.plat (.abs (s.pairPage f1)) (s.reg f1) with
  | none =>
    obtain rfl := (ok_ok ..).mp ((absRelease_reached f1 c s hreach).symm.trans hrun)
    exact (hbracket.putWord ..).unblocked.altEnd
  | some k => exact hbracket.unblocked.errorExit ((absRelease_failed f1 c s k hreach).symm.trans hrun)

theorem deviceRead_ordinary (h : outcome (deviceRead o f2 s) = .next t) : Ordinary s t := by
  have hrun := (outcome_next ..).mp h
  obtain ⟨v, hanswer⟩ | ⟨k, hreach⟩ | ⟨k, hreach, hreply⟩ := ioTransfer_cases s .drd (s.device f2)
  · obtain hplace | ⟨a, k, ho, hstore⟩ := placeReaches_or_failed s (o.loc s)
    · obtain rfl := (ok_ok ..).mp ((deviceRead_reached o f2 s v hanswer hplace).symm.trans hrun)
      exact (((Kept.refl s).transferred ..).putAt ..).altReturn 2
    · exact ((Kept.refl s).transferred ..).errorExit ((deviceRead_unstored o f2 s v a k hanswer ho hstore).symm.trans hrun)
  · exact (Kept.refl s).errorExit ((deviceRead_unreached o f2 s k hreach).symm.trans hrun)
  · exact ((Kept.refl s).answerTaken ..).errorExit ((deviceRead_unanswered o f2 s k hreach hreply).symm.trans hrun)

theorem deviceWrite_ordinary (h : outcome (deviceWrite o f2 s) = .next t) : Ordinary s t := by
  have hrun := (outcome_next ..).mp h
  obtain hplace | ⟨a, k, ho, hload⟩ := placeReaches_or_failed s (o.loc s)
  · obtain ⟨v, hanswer⟩ | ⟨k, hreach⟩ | ⟨k, hreach, hreply⟩ := ioTransfer_cases s .dwr (s.device f2)
    · obtain rfl := (ok_ok ..).mp ((deviceWrite_reached o f2 s v hanswer hplace).symm.trans hrun)
      exact ((Kept.refl s).transferred ..).altReturn 2
    · exact (Kept.refl s).errorExit ((deviceWrite_unreached o f2 s k hplace hreach).symm.trans hrun)
    · exact ((Kept.refl s).answerTaken ..).errorExit ((deviceWrite_unanswered o f2 s k hplace hreach hreply).symm.trans hrun)
  · exact (Kept.refl s).errorExit ((deviceWrite_unread o f2 s a k ho hload).symm.trans hrun)

end

/-! ### Operations that change a special register, the flags or the modification -/

section
variable {s t : State} {o o1 o2 : Operand} {f1 f2 r : RegNum} {c : BitVec 4} {a v : Word} {k : BitVec 8}

theorem arithmetic_sets {f : Word → Word → Bool → Sum} {cin : Bool} (h : outcome (arithmetic f cin o1 o2 s) = .next t) :
    Ordinary { s with psw := t.psw } t := by
  obtain ⟨-, -, rfl⟩ := (arithmetic_ok ..).mp ((outcome_next ..).mp h)
  exact (((Kept.refl s).putAt ..).setCC ..).finish

theorem addConstant_sets : Ordinary { s with psw := (addConstant v r s).psw } (addConstant v r s) :=
  ⟨⟨rfl, rfl, id, id⟩, rfl, rfl⟩

theorem selfTest_sets : Ordinary { s with psw := s.selfTest.finish.psw } s.selfTest.finish := ⟨⟨rfl, rfl, id, id⟩, rfl, rfl⟩

theorem loadStatus_sets (h : outcome (loadStatus o s) = .next t) : Ordinary { s with psw := t.psw, umap := t.umap } t := by
  obtain ⟨-, rfl⟩ := (loadStatus_ok ..).mp ((outcome_next ..).mp h)
  rw [loadPsw_eq]
  exact ⟨⟨rfl, rfl, id, id⟩, rfl, rfl⟩

theorem loadTimer_sets (h : outcome (loadTimer o s) = .next t) : Ordinary { s with timer := t.timer } t := by
  obtain ⟨-, rfl⟩ := (loadTimer_ok ..).mp ((outcome_next ..).mp h)
  exact ⟨⟨rfl, rfl, id, id⟩, rfl, rfl⟩

theorem loadLevel_sets (h : outcome (loadLevel o s) = .next t) : Ordinary { s with level := t.level } t := by
  obtain ⟨-, rfl⟩ := (loadLevel_ok ..).mp ((outcome_next ..).mp h)
  exact ⟨⟨rfl, rfl, id, id⟩, rfl, rfl⟩

theorem jumpPageZero_sets (h : outcome (jumpPageZero k s) = .next t) : Ordinary { s with level := t.level } t := by
  obtain ⟨-, rfl⟩ := (jumpPageZero_ok ..).mp ((outcome_next ..).mp h)
  exact (((Kept.refl (s.setLevelFlag true)).setReg ..).setPg false).jumpTo _

theorem returnPageZero_sets {x : BitVec 2} {d : BitVec 6} :
    Ordinary { s with level := (returnPageZero x d s).level } (returnPageZero x d s) :=
  ((Kept.refl (s.setLevelFlag false)).setPg true).jumpTo _

theorem loadBound_sets (h : outcome (loadBound s) = .next t) : Ordinary { s with bound := t.bound } t := by
  obtain ⟨-, rfl⟩ := (loadBound_ok ..).mp ((outcome_next ..).mp h)
  exact ⟨⟨rfl, rfl, id, id⟩, rfl, rfl⟩

theorem enterMonitor_sets (a : Word) :
    Ordinary { s with level := s.enterMonitor.level, bound := s.enterMonitor.bound } (s.enterMonitor.jumpTo a) :=
  (((Kept.refl { s with level := s.level + 1, bound := 0xFFFF }).setReg 7 s.link).setPg false).jumpTo a

theorem monitorCall_sets (h : outcome (monitorCall k s) = .next t) : Ordinary { s with level := t.level, bound := t.bound } t := by
  have hrun := (monitorCall_ok ..).mp ((outcome_next ..).mp h)
  split at hrun
  · obtain rfl := hrun
    exact enterMonitor_sets _
  · obtain ⟨-, rfl⟩ := hrun
    exact enterMonitor_sets _

theorem monitorLeft_sets : Kept { s with level := s.monitorLeft.level, bound := s.monitorLeft.bound } s.monitorLeft := by
  by_cases hzero : s.level - 1 = 0
  · by_cases hcounter : counterZero (s.level - 1) = true
    · simp only [State.monitorLeft, if_pos hzero, if_pos hcounter]
      exact (Kept.refl { s with level := s.level - 1, bound := s.word s.dataPage (s.base - 1) }).setPg true
    · simp only [State.monitorLeft, if_pos hzero, if_neg hcounter]
      exact (Kept.refl { s with level := s.level - 1 }).setPg true
  · by_cases hcounter : counterZero (s.level - 1) = true
    · simp only [State.monitorLeft, if_neg hzero, if_pos hcounter]
      exact ⟨rfl, rfl, id, id⟩
    · simp only [State.monitorLeft, if_neg hzero, if_neg hcounter]
      exact ⟨rfl, rfl, id, id⟩

theorem returnMonitor_sets (h : outcome (returnMonitor a s) = .next t) : Ordinary { s with level := t.level, bound := t.bound } t := by
  obtain ⟨-, rfl⟩ := (returnMonitor_ok ..).mp ((outcome_next ..).mp h)
  exact monitorLeft_sets.jumpTo a

theorem returnMonitorIndirect_sets (h : outcome (returnMonitorIndirect a s) = .next t) :
    Ordinary { s with level := t.level, bound := t.bound } t := by
  obtain ⟨-, -, rfl⟩ := (returnMonitorIndirect_ok ..).mp ((outcome_next ..).mp h)
  exact monitorLeft_sets.jumpTo _

/-- The state with the process registers of another: BASE, PROG, TIMER, UMAP, LEVEL, BOUND and the PSW. -/
def State.withProcessOf (s t : State) : State :=
  { s with base := t.base, prog := t.prog, timer := t.timer, umap := t.umap, level := t.level, bound := t.bound, psw := t.psw }

theorem processLoaded_sets (p : Byte) (d : Word) : Kept (s.withProcessOf (s.processLoaded p d)) (s.processLoaded p d) := by
  rw [processLoaded_eq]
  exact ⟨rfl, rfl, id, id⟩

theorem loadUnlinked_sets (h : outcome (loadUnlinked o s) = .next t) : Ordinary (s.withProcessOf t) t := by
  obtain ⟨-, -, -, rfl⟩ := (loadUnlinked_ok ..).mp ((outcome_next ..).mp h)
  exact ⟨(processLoaded_sets _ _).clearModification, rfl, rfl⟩

/-- The link of LDP is stored in memory. -/
theorem linkStored_sets {u : State} (h : Kept (s.withProcessOf u) u) (p q : Byte) (a b v w : Word) :
    Ordinary (s.withProcessOf ((u.putWord p a v).putWord q b w).clearModification) ((u.putWord p a v).putWord q b w).clearModification :=
  ⟨((h.putWord p a v).putWord q b w).clearModification, rfl, rfl⟩

theorem loadLinked_sets (h : outcome (loadLinked o s) = .next t) : Ordinary (s.withProcessOf t) t := by
  obtain ⟨-, -, -, -, -, rfl⟩ := (loadLinked_ok ..).mp ((outcome_next ..).mp h)
  exact linkStored_sets (processLoaded_sets ..) ..

theorem writeSystemMap_sets (h : outcome (writeSystemMap o s) = .next t) : Ordinary { s with spm := t.spm } t := by
  obtain ⟨-, rfl⟩ := (writeSystemMap_ok ..).mp ((outcome_next ..).mp h)
  exact (Kept.refl { s with spm := lowByte (s.valueAt (o.loc s)) }).altReturn 1

theorem mapWrite_sets (h : outcome (mapWrite o f2 s) = .next t) :
    Ordinary { s with mapMem := t.mapMem } t ∧ (s.mapMem.wf = true → t.mapMem.wf = true) := by
  have hrun := (outcome_next ..).mp h
  by_cases hcpu : s.plat.cpu = .type8
  · rw [mapWrite, if_pos hcpu] at hrun
    exact nomatch hrun
  · obtain ⟨-, -, rfl⟩ := (mapWrite_ok _ _ _ _ hcpu).mp hrun
    exact ⟨(Kept.refl { s with mapMem := s.mapMem.writeWord (s.device f2).toNat (s.valueAt (o.loc s)) }).altReturn 1,
      wf_writeWord _ _ _⟩

theorem executeAt_sets (h : outcome (executeAt a s) = .next t) : Ordinary { s with instr := t.instr } t ∧ t.psw = s.psw := by
  obtain ⟨-, rfl⟩ := (executeAt_ok ..).mp ((outcome_next ..).mp h)
  exact ⟨⟨⟨rfl, rfl, id, id⟩, rfl, rfl⟩, rfl⟩

theorem executeIndirect_sets (h : outcome (executeIndirect a s) = .next t) :
    Ordinary { s with instr := t.instr } t ∧ t.psw = s.psw := by
  obtain ⟨-, -, rfl⟩ := (executeIndirect_ok ..).mp ((outcome_next ..).mp h)
  exact ⟨⟨⟨rfl, rfl, id, id⟩, rfl, rfl⟩, rfl⟩

theorem modify_sets (v : Word) : Kept s (s.modify v) ∧ (s.modify v).modified = true := ⟨⟨rfl, rfl, id, id⟩, rfl⟩

theorem modifyBy_sets (h : outcome (modifyBy o s) = .next t) : Kept s t ∧ t.modified = true := by
  obtain ⟨-, rfl⟩ := (modifyBy_ok ..).mp ((outcome_next ..).mp h)
  exact modify_sets _

theorem modifyByMinus_sets (h : outcome (modifyByMinus o s) = .next t) : Kept s t ∧ t.modified = true := by
  obtain ⟨-, rfl⟩ := (modifyByMinus_ok ..).mp ((outcome_next ..).mp h)
  exact modify_sets _

theorem ownParameter_sets {f : Word → Word} (h : outcome ((s.ownParameter k).map fun w => s.modify (f w)) = .next t) :
    Kept s t ∧ t.modified = true := by
  have hrun := (outcome_next ..).mp h
  cases hown : s.ownParameter k with
  | ok w =>
    rw [hown] at hrun
    obtain rfl := (ok_ok ..).mp hrun
    exact modify_sets _
  | error e =>
    rw [hown] at hrun
    exact nomatch hrun

theorem release_keeps (h : outcome (release f1 c s) = .next t) : Kept s t ∧ ModificationKept s t := by
  obtain ⟨-, rfl⟩ := (release_ok ..).mp ((outcome_next ..).mp h)
  exact ⟨(((Kept.refl s).putWord ..).advance 1).unblocked, rfl, rfl⟩

theorem reserve_keeps (h : outcome (reserve f1 c s) = .next t) : Kept s t ∧ ModificationKept s t := by
  obtain ⟨-, rfl⟩ := (reserve_ok ..).mp ((outcome_next ..).mp h)
  split
  · exact ⟨((Kept.refl s).advance 1).unblocked, rfl, rfl⟩
  · exact ⟨((((Kept.refl s).putWord ..).advance 1).advance 1).unblocked, rfl, rfl⟩

theorem jumpOn_keeps {zero : Bool} (h : outcome (jumpOn zero o v s) = .next t) : Kept s t ∧ ModificationKept s t := by
  obtain ⟨-, -, rfl⟩ := (jumpOn_ok ..).mp ((outcome_next ..).mp h)
  split
  · exact ⟨(Kept.refl s).advance _, rfl, rfl⟩
  · exact ⟨(Kept.refl s).advance 1, rfl, rfl⟩

/-! ### Block moves -/

/-- The modification is cleared, or the instruction stands at an interruption point with the modification as it was. -/
def EndsOrPauses (s t : State) : Prop := (t.mod = 0 ∧ t.modified = false) ∨ (t.pc = s.pc ∧ ModificationKept s t)

theorem EndsOrPauses.trans {s t u : State} (hpc : t.pc = s.pc) (hmod : ModificationKept s t) (h : EndsOrPauses t u) : EndsOrPauses s u := by
  obtain hend | ⟨hpc', hmod', hmodified'⟩ := h
  · exact .inl hend
  · exact .inr ⟨hpc'.trans hpc, hmod'.trans hmod.1, hmodified'.trans hmod.2⟩

theorem blockState_kept {unit : State → State} (hunit : ∀ u, Kept u (unit u)) (n : Nat) (s : State) : Kept s (blockState unit r n s) := by
  induction n generalizing s with
  | zero => exact Kept.refl s
  | succ n ih =>
    unfold blockState
    split
    · exact ((Kept.refl s).altReturn 2).toKept
    · exact (hunit s).trans (ih (unit s))

theorem blockState_endsOrPauses {unit : State → State} (hpc : ∀ u, (unit u).pc = u.pc) (hmod : ∀ u, ModificationKept u (unit u)) (n : Nat)
    (s : State) : EndsOrPauses s (blockState unit r n s) := by
  induction n generalizing s with
  | zero => exact .inr ⟨rfl, rfl, rfl⟩
  | succ n ih =>
    unfold blockState
    split
    · exact .inl ⟨rfl, rfl⟩
    · exact (ih (unit s)).trans (hpc s) (hmod s)

theorem iterate_kept {unit : State → State} (hunit : ∀ u, Kept u (unit u)) (n : Nat) (s : State) : Kept s (unit^[n] s) := by
  induction n generalizing s with
  | zero => exact Kept.refl s
  | succ n ih => exact (hunit s).trans (ih (unit s))

theorem blockWords_keeps {src dst : State → Byte × Word} (h : outcome (blockWords src dst f1 f2 r s) = .next t) :
    Kept s t ∧ EndsOrPauses s t := by
  have hrun := (outcome_next ..).mp h
  have hunit (u : State) : Kept u (wordMoved src dst f1 f2 r u) := (Kept.refl u).wordMoved ..
  obtain hall | ⟨m, k, hm, hcount, hbefore, hfails⟩ :=
    units_answer_or_first_fails (unitFailure src dst) (wordMoved src dst f1 f2 r) r s blockFuel
  · obtain rfl := (ok_ok ..).mp ((blockWords_reached _ _ _ _ _ _ hall).symm.trans hrun)
    exact ⟨blockState_kept hunit _ _, blockState_endsOrPauses (unit := wordMoved src dst f1 f2 r) (fun _ => rfl) (fun _ => ⟨rfl, rfl⟩) _ _⟩
  · have hexit := (iterate_kept hunit m s).errorExit ((blockWords_failed _ _ _ _ _ _ m k hm hcount hbefore hfails).symm.trans hrun)
    exact ⟨hexit.toKept, .inl ⟨hexit.mod, hexit.modified⟩⟩

theorem blockBytes_keeps {src dst : State → Byte × Nat} (h : outcome (blockBytes src dst f1 f2 r s) = .next t) :
    Kept s t ∧ EndsOrPauses s t := by
  have hrun := (outcome_next ..).mp h
  have hunit (u : State) : Kept u (byteMoved src dst f1 f2 r u) := (Kept.refl u).byteMoved ..
  obtain hall | ⟨m, k, hm, hcount, hbefore, hfails⟩ :=
    units_answer_or_first_fails (unitFailure (inWord src) (inWord dst)) (byteMoved src dst f1 f2 r) r s blockFuel
  · obtain rfl := (ok_ok ..).mp ((blockBytes_reached _ _ _ _ _ _ hall).symm.trans hrun)
    exact ⟨blockState_kept hunit _ _, blockState_endsOrPauses (unit := byteMoved src dst f1 f2 r) (fun _ => rfl) (fun _ => ⟨rfl, rfl⟩) _ _⟩
  · have hexit := (iterate_kept hunit m s).errorExit ((blockBytes_failed _ _ _ _ _ _ m k hm hcount hbefore hfails).symm.trans hrun)
    exact ⟨hexit.toKept, .inl ⟨hexit.mod, hexit.modified⟩⟩

end

end Sys2Proof.Machine

namespace Sys2Proof

/-- XCU and XCUI (R324, R326). -/
def Instr.executes : Instr → Bool
  | .xcu _ | .xcui _ => true
  | _ => false

/-- ALT (R335). -/
def Instr.switchesSet : Instr → Bool
  | .alt => true
  | _ => false

/-- The instructions that change no special register, no map memory and no arithmetic flag and clear the modification. -/
def Instr.isOrdinary (i : Instr) : Bool :=
  !(i.loadsProcess || i.loadsStatus || i.loadsTimer || i.changesLevel || i.changesBound || i.writesSystemMap || i.writesMapMemory ||
    i.setsFlags || i.keepsModification || i.isBlockMove || i.executes || i.switchesSet)

end Sys2Proof

namespace Sys2Proof.Machine

/-! ### Every instruction -/

section
variable {s t : State} {i : Instr}

theorem next_ordinary {u : State} (hu : Ordinary s u) (h : (Host.Outcome.next u : Answer) = .next t) : Ordinary s t := by
  cases h
  exact hu

/-- Every instruction but those that the groups of Safety.lean name, and XCU, XCUI and ALT, is ordinary. -/
theorem exec_ordinary (h : exec i s = .next t) (hi : i.isOrdinary = true) : Ordinary s t := by
  cases i
  all_goals unfold exec at h
  case sltpRC | sltpXC | sgepRC | sgepXC | slopRC | slopXC | shspRC | shspXC | sltRC | sltXC | sgeRC | sgeXC | sloRC | sloXC | shsRC | shsXC
    | snepRCn | snepRC | snepXCn | snepXC | seqpRCn | seqpRC | seqpXCn | seqpXC | sneRCn | sneRC | sneXCn | sneXC | seqRCn | seqRC | seqXCn
    | seqXC =>
    exact skipConstant_ordinary h
  case movcCn4X | movcCn8R | movcC8R | movcC4X =>
    exact moveValue_ordinary h
  case mmp | mvp | movP8R => exact moveProgram_ordinary h
  case jmpiB6 | jmpiB8 | jmpiP8 => exact jumpIndirect_ordinary h
  case jmpiS2P8 => exact ((Kept.refl s).setReg ..).ordinary (jumpIndirect_ordinary h)
  case dec | inc | sxt | xtrRC | xtrXC | swpR | swpM | invR | invM | negR | negM =>
    exact update_ordinary h
  case movB6R | movB8R | movRB8 | movRB6 | movR | movX =>
    exact move_ordinary h
  case srlRC | sraRC | srlXC | sraXC | sllRC | slcRC | sllXC | slcXC =>
    exact shift_ordinary h
  case srllRC | srllXC | slllRC | slllXC =>
    exact shiftLong_ordinary h
  case clr => exact clear_ordinary h
  case sozp | sonp | soz | son =>
    exact skipZero_ordinary h
  case setsR | setsX | clrsR | clrsX =>
    exact changeBit_ordinary h
  case movlLoad => exact moveLongIn_ordinary h
  case movbLoad => exact moveByteIn_ordinary h
  case andRR | iorRR | xor => exact logic_ordinary h
  case incdRR | decdRR | incdXM | decdXM =>
    exact updateBoth_ordinary h
  case movbStore => exact moveByteOut_ordinary h
  case sioR | rioR | sioX | rioX =>
    exact input_ordinary h
  case cioR | wioR | cioX | wioX =>
    exact output_ordinary h
  case setsRC | setsXC => exact changeBitConstant_ordinary h
  case sbnpRC | sbnpXC | sbzpRC | sbzpXC | sbnRC | sbnXC | sbzRC | sbzXC =>
    exact skipBit_ordinary h
  case sltpRR | slopRR | sgepRR | shspRR | snepRR | seqpRR | sltRR | sloRR | sgeRR | shsRR | sneRR | seqRR =>
    exact skipCompare_ordinary h
  case stcRM | stcXM => exact stackValue_ordinary h
  case unsRM | unsXM => exact unstackValue_ordinary h
  case movlStore => exact moveLongOut_ordinary h
  case putX | putR => exact put_ordinary h
  case movm => exact moveMultiple_ordinary h
  case mul => exact multiply_ordinary h
  case div => exact divide_ordinary h
  case xchR | xchX => exact exchange_ordinary h
  case sssR | sssM | svtR | svtM | svsR | svsM | svlR | svlM =>
    exact saveValue_ordinary h
  case dicpR | dicpM | ddcpR | ddcpM =>
    exact updatePair_ordinary h
  case svp => exact saveOwnProcess_ordinary h
  case cpuR | cpuM => exact notify_ordinary h
  case unsC4 => exact unstackMany_ordinary h
  case stcC4 => exact stackMany_ordinary h
  case amowStore => exact absStoreWord_ordinary h
  case amowLoad => exact absLoadWord_ordinary h
  case amobStore => exact absStoreByte_ordinary h
  case amobLoad => exact absLoadByte_ordinary h
  case aress => exact absReserve_ordinary h
  case arels => exact absRelease_ordinary h
  case drdR | drdX => exact deviceRead_ordinary h
  case dwrR | dwrX => exact deviceWrite_ordinary h
  case mrdR | mrdX => exact mapRead_ordinary h
  case rspR | rspX => exact readSystemMap_ordinary h
  case arsc => exact readSyndrome_ordinary h
  case ared => exact readUncorrected_ordinary h
  case nmi => exact nonMaskable_ordinary h
  case trp => exact nomatch h
  case jmpLn10 | jmpLn8 | jmpL10 | jmpL8 | jmpP6 => exact next_ordinary ((Kept.refl s).jumpTo _) h
  case jmpS2Ln8 | jmpS2L8 => exact next_ordinary (((Kept.refl s).setReg ..).jumpTo _) h
  case jvnLn4 | jvnL4 => exact next_ordinary jumpNoOverflow_ordinary h
  case sob => exact next_ordinary subtractAndBranch_ordinary h
  case ldm => exact next_ordinary ((Kept.refl s).setMask _).finish h
  case cae | cad => exact next_ordinary (setCache_kept _).finish h
  all_goals exact absurd hi Bool.false_ne_true

end

/-! ### The writers of the special registers, of map memory and of the flags (O8, O9) -/

/-- What an instruction may change outside the general registers, LOC, the modification, memory and the devices: what the groups of
Safety.lean allow it. -/
structure Touches (i : Instr) (s t : State) : Prop where
  plat : t.plat = s.plat
  process : i.loadsProcess = false → t.base = s.base ∧ t.prog = s.prog
  timer : i.loadsProcess = false → i.loadsTimer = false → t.timer = s.timer
  umap : i.loadsProcess = false → i.loadsStatus = false → t.umap = s.umap
  level : i.loadsProcess = false → i.changesLevel = false → t.level = s.level
  bound : i.loadsProcess = false → i.changesBound = false → t.bound = s.bound
  spm : i.writesSystemMap = false → t.spm = s.spm
  mapMem : i.writesMapMemory = false → t.mapMem = s.mapMem
  flags : i.setsFlags = false → i.loadsStatus = false → i.loadsProcess = false → t.psw.extractLsb' 4 4 = s.psw.extractLsb' 4 4
  memory : s.mem.wf = true → t.mem.wf = true
  mapMemory : s.mapMem.wf = true → t.mapMem.wf = true
  blocking : s.semBlock = false → t.semBlock = false
  waiting : i.executes = false → t.instr = s.instr

section
variable {s t u : State} {i : Instr}

/-- What is kept from a state in which only what the instruction may change differs. -/
theorem Touches.kept (hu : Touches i s u) (h : Kept u t) : Touches i s t where
  plat := h.plat.trans hu.plat
  process hi := ⟨h.base.trans (hu.process hi).1, h.prog.trans (hu.process hi).2⟩
  timer hp hi := h.timer.trans (hu.timer hp hi)
  umap hp hi := h.umap.trans (hu.umap hp hi)
  level hp hi := h.level.trans (hu.level hp hi)
  bound hp hi := h.bound.trans (hu.bound hp hi)
  spm hi := h.spm.trans (hu.spm hi)
  mapMem hi := h.mapMem.trans (hu.mapMem hi)
  flags hf hs hp := h.flags.trans (hu.flags hf hs hp)
  memory hs := h.memory (hu.memory hs)
  mapMemory hs := by rw [h.mapMem]; exact hu.mapMemory hs
  blocking hs := h.blocking (hu.blocking hs)
  waiting hi := h.instr.trans (hu.waiting hi)

theorem touches_refl (i : Instr) (s : State) : Touches i s s := by constructor <;> simp

theorem touches_process (hi : i.loadsProcess = true) : Touches i s (s.withProcessOf t) := by
  constructor <;> simp [hi, State.withProcessOf]

theorem touches_status (hi : i.loadsStatus = true) : Touches i s { s with psw := t.psw, umap := t.umap } := by
  constructor <;> simp [hi]

theorem touches_timer (hi : i.loadsTimer = true) : Touches i s { s with timer := t.timer } := by constructor <;> simp [hi]

theorem touches_level (hi : i.changesLevel = true) : Touches i s { s with level := t.level } := by constructor <;> simp [hi]

theorem touches_bound (hi : i.changesBound = true) : Touches i s { s with bound := t.bound } := by constructor <;> simp [hi]

theorem touches_levelAndBound (hl : i.changesLevel = true) (hb : i.changesBound = true) :
    Touches i s { s with level := t.level, bound := t.bound } := by constructor <;> simp [hl, hb]

theorem touches_spm (hi : i.writesSystemMap = true) : Touches i s { s with spm := t.spm } := by constructor <;> simp [hi]

theorem touches_mapMem (hi : i.writesMapMemory = true) (hwf : s.mapMem.wf = true → t.mapMem.wf = true) :
    Touches i s { s with mapMem := t.mapMem } := by
  refine { touches_refl i s with mapMem := ?_, mapMemory := hwf }
  simp [hi]

theorem touches_flags (hi : i.setsFlags = true) : Touches i s { s with psw := t.psw } := by constructor <;> simp [hi]

theorem touches_waiting (hi : i.executes = true) : Touches i s { s with instr := t.instr } := by constructor <;> simp [hi]

/-- The modification after an instruction: cleared, added to, as it was, or as it was at an interruption point. -/
inductive ModificationAfter (i : Instr) (s t : State) : Prop
  | cleared (hmod : t.mod = 0) (hmodified : t.modified = false)
  | added (hi : i.keepsModification = true) (hmodified : t.modified = true)
  | kept (hi : i.keepsModification = true ∨ i = .alt ∧ s.plat.cpu ≠ .type6) (h : ModificationKept s t)
  | paused (hi : i.isBlockMove = true) (hpc : t.pc = s.pc) (h : ModificationKept s t)

/-- What an instruction that answers a next state changes and how it leaves the modification. -/
structure Effect (i : Instr) (s t : State) : Prop extends Touches i s t where
  modification : ModificationAfter i s t

theorem Effect.ordinary (hu : Touches i s u) (h : Ordinary u t) : Effect i s t := ⟨hu.kept h.toKept, .cleared h.mod h.modified⟩

theorem Effect.added (hi : i.keepsModification = true) (h : Kept s t ∧ t.modified = true) : Effect i s t :=
  ⟨(touches_refl i s).kept h.1, .added hi h.2⟩

theorem Effect.kept (hi : i.keepsModification = true ∨ i = .alt ∧ s.plat.cpu ≠ .type6) (h : Kept s t ∧ ModificationKept s t) :
    Effect i s t := ⟨(touches_refl i s).kept h.1, .kept hi h.2⟩

theorem Effect.paused (hi : i.isBlockMove = true) (h : Kept s t ∧ EndsOrPauses s t) : Effect i s t := by
  obtain ⟨hkept, ⟨hmod, hmodified⟩ | ⟨hpc, hmodification⟩⟩ := h
  · exact .ordinary (touches_refl i s) ⟨hkept, hmod, hmodified⟩
  · exact ⟨(touches_refl i s).kept hkept, .paused hi hpc hmodification⟩

theorem switchSet_effect : Effect .alt s s.switchSet := by
  have hkept := (Kept.refl s).setAlt true
  by_cases hcpu : s.plat.cpu = .type6
  · rw [State.switchSet, if_pos hcpu]
    exact .ordinary (touches_refl _ s) ⟨hkept.clearModification.advance 1, rfl, rfl⟩
  · rw [State.switchSet, if_neg hcpu]
    exact .kept (.inr ⟨rfl, hcpu⟩) ⟨hkept.advance 1, rfl, rfl⟩

theorem next_effect (hu : Effect i s u) (h : (Host.Outcome.next u : Answer) = .next t) : Effect i s t := by
  cases h
  exact hu

/-- What every instruction that answers a next state leaves. -/
theorem exec_effect (h : exec i s = .next t) : Effect i s t := by
  by_cases hord : i.isOrdinary = true
  · exact .ordinary (touches_refl i s) (exec_ordinary h hord)
  cases i
  all_goals unfold exec at h
  case ldpR | ldpM => exact .ordinary (touches_process rfl) (loadLinked_sets h)
  case ldnR | ldnM => exact .ordinary (touches_process rfl) (loadUnlinked_sets h)
  case ldsR | ldsM | slsR | slsM => exact .ordinary (touches_status rfl) (loadStatus_sets h)
  case ldtR | ldtM => exact .ordinary (touches_timer rfl) (loadTimer_sets h)
  case ldlR | ldlM => exact .ordinary (touches_level rfl) (loadLevel_sets h)
  case jpzi => exact .ordinary (touches_level rfl) (jumpPageZero_sets h)
  case rpz => exact next_effect (.ordinary (touches_level rfl) returnPageZero_sets) h
  case lbr => exact .ordinary (touches_bound rfl) (loadBound_sets h)
  case mon => exact .ordinary (touches_levelAndBound rfl rfl) (monitorCall_sets h)
  case rtm => exact .ordinary (touches_levelAndBound rfl rfl) (returnMonitor_sets h)
  case rtmi => exact .ordinary (touches_levelAndBound rfl rfl) (returnMonitorIndirect_sets h)
  case wspR | wspX => exact .ordinary (touches_spm rfl) (writeSystemMap_sets h)
  case mwrR | mwrX => exact .ordinary (touches_mapMem rfl (mapWrite_sets h).2) (mapWrite_sets h).1
  case addRB6 | addB6R | addRR | subRR | adduRR | subuRR => exact .ordinary (touches_flags rfl) (arithmetic_sets h)
  case addcCn8R | addcC8R => exact next_effect (.ordinary (touches_flags rfl) addConstant_sets) h
  case tst => exact next_effect (.ordinary (touches_flags rfl) selfTest_sets) h
  case xcu => exact .ordinary (touches_waiting rfl) (executeAt_sets h).1
  case xcui => exact .ordinary (touches_waiting rfl) (executeIndirect_sets h).1
  case modB6 | modB8 | modR | modX => exact .added rfl (modifyBy_sets h)
  case modnB6 | modnB8 | modnR | modnX => exact .added rfl (modifyByMinus_sets h)
  case modP8 => exact .added rfl (ownParameter_sets (f := id) h)
  case modnP8 => exact .added rfl (ownParameter_sets (f := (-·)) h)
  case mod8 | modcCn8 | mod4Cn8 | modcC8 | mod4C8 => exact next_effect (.added rfl (modify_sets _)) h
  case rels => exact .kept (.inl rfl) (release_keeps h)
  case ress => exact .kept (.inl rfl) (reserve_keeps h)
  case jonRLn4 | jonXLn4 | jozRLn4 | jozXLn4 | jonRL4 | jonXL4 | jozRL4 | jozXL4 => exact .kept (.inl rfl) (jumpOn_keeps h)
  case alt => exact next_effect switchSet_effect h
  case aamow | lamow | almow => exact .paused rfl (blockWords_keeps h)
  case aamob | lamob | almob => exact .paused rfl (blockBytes_keeps h)
  all_goals exact absurd rfl hord

end

/-- Settles O8, from what every instruction leaves. -/
theorem systemRegistersAreWrittenOnlyBy : Obligations.SystemRegistersAreWrittenOnlyBy := by
  intro i s t h
  have htouches := (exec_effect h).toTouches
  exact ⟨htouches.plat, htouches.process, htouches.timer, htouches.umap, htouches.level, htouches.bound, htouches.spm, htouches.mapMem⟩

/-- Settles O9, from what every instruction leaves. -/
theorem arithmeticFlagsAreWrittenOnlyBy : Obligations.ArithmeticFlagsAreWrittenOnlyBy := by
  intro i s t h
  exact (exec_effect h).flags

/-- Settles O10: the four ends of the modification, one by one. -/
theorem modificationIsClearedByAllBut : Obligations.ModificationIsClearedByAllBut := by
  intro i s t h hkeeps halt
  cases (exec_effect h).modification with
  | cleared hmod hmodified => exact .inl ⟨hmod, hmodified⟩
  | added hi _ => exact absurd hi (by simp [hkeeps])
  | kept hi _ =>
    obtain hi | ⟨rfl, hcpu⟩ := hi
    · exact absurd hi (by simp [hkeeps])
    · exact absurd (halt rfl) hcpu
  | paused hi hpc hmodification => exact .inr ⟨hi, hpc, hmodification⟩

/-! ### The invariant (O6) -/

section
variable {s t : State} {i : Instr}

/-- An instruction executed where no word of an XCU waits, and with PSW bit 12 clear where it is XCU or XCUI, keeps the invariant. -/
theorem exec_invariant (hs : Invariant s) (hinstr : s.instr = none) (hset : i.executes = true → s.alt = false)
    (h : exec i s = .next t) : Invariant t := by
  have heffect := exec_effect h
  refine ⟨heffect.memory hs.memory, heffect.mapMemory hs.mapMemory, fun hmodified => ?_, heffect.blocking hs.blockingClear, fun hsome => ?_⟩
  · cases heffect.modification with
    | cleared hmod _ => exact hmod
    | added _ htrue => exact absurd htrue (by simp [hmodified])
    | kept _ hkept => exact hkept.1.trans (hs.unmodified (hkept.2.symm.trans hmodified))
    | paused _ _ hkept => exact hkept.1.trans (hs.unmodified (hkept.2.symm.trans hmodified))
  · have hexecutes : i.executes = true := by
      by_contra hno
      rw [heffect.waiting (by simpa using hno), hinstr] at hsome
      exact absurd hsome (by decide)
    have hsets : t.psw = s.psw ∧ t.modified = false := by
      cases i
      case xcu => exact ⟨(executeAt_sets h).2, (executeAt_sets h).1.modified⟩
      case xcui => exact ⟨(executeIndirect_sets h).2, (executeIndirect_sets h).1.modified⟩
      all_goals exact absurd hexecutes Bool.false_ne_true
    exact ⟨by rw [State.alt, hsets.1]; exact hset hexecutes, hsets.2⟩

theorem isAlternative_of_executes (hi : i.executes = true) : i.isAlternative = false := by
  cases i
  case xcu | xcui => rfl
  all_goals exact absurd hi Bool.false_ne_true

/-- A step keeps the invariant: XCU and XCUI are of the standard set, so that they are executed with PSW bit 12 clear. -/
theorem step_invariant (hs : Invariant s) (h : step s = .next t) : Invariant t := by
  unfold step at h
  split at h
  · exact nomatch h
  · split at h
    · next e _ => cases e <;> exact nomatch h
    · next w _ =>
      split at h
      · exact nomatch h
      · next i hdecode =>
        have htaken : Invariant s.taken :=
          ⟨hs.memory, hs.mapMemory, hs.unmodified, hs.blockingClear, fun hsome => absurd hsome (by simp [State.taken])⟩
        refine exec_invariant htaken rfl (fun hexecutes => ?_) h
        have hset := (encodeOfDecode _ _ _ _ hdecode).1
        rw [isAlternative_of_executes hexecutes, State.alternativeNext] at hset
        cases hwaits : s.instr with
        | some w => exact (hs.executeStandard (by simp [hwaits])).1
        | none =>
          have hclear : s.alt = false := by simpa [hwaits] using hset.symm
          exact hclear

theorem launchable_invariant {alternative : Bool} (hmem : s.mem.wf = true) (hmapMem : s.mapMem.wf = true)
    (h : s.launchable alternative = true) : Invariant s := by
  obtain ⟨hmod, -, -, hblock, hinstr, -⟩ := (launchable_iff s alternative).mp h
  exact ⟨hmem, hmapMem, fun _ => hmod, hblock, fun hsome => absurd hsome (by simp [hinstr])⟩

theorem run_invariant {alternative : Bool} (hmem : s.mem.wf = true) (hmapMem : s.mapMem.wf = true)
    (h : run alternative s = .stepBudget t ∨ run alternative s = .endAddress t) : Invariant t := by
  unfold run at h
  cases hlaunch : s.launch alternative with
  | next u =>
    obtain ⟨hlaunchable, rfl⟩ := (launch_next ..).mp hlaunch
    rw [hlaunch] at h
    exact runSteps_keeps Invariant (fun _ _ => step_invariant) _ _ _ (launchable_invariant hmem hmapMem hlaunchable) h
  | fault f => simp [hlaunch] at h
  | refused r => simp [hlaunch] at h

end

/-- Settles O6: what every instruction leaves, and the set that XCU and XCUI are decoded in. -/
theorem stepKeepsTheInvariant : Obligations.StepKeepsTheInvariant := by
  exact ⟨fun s t hs h => step_invariant hs h, fun alternative s t hmem hmapMem h => run_invariant hmem hmapMem h⟩

end Sys2Proof.Machine
end

section
/-! PROOF. The step, the state after reset, TRP, and the bytes and words of memory. -/

namespace Sys2Proof.Machine

/-- Settles O4: a step where each of its parts answers. -/
theorem stepRunsTheDecodedInstruction : Obligations.StepRunsTheDecodedInstruction := by
  intro s i hnmi
  refine ⟨fun hinstr hreach hdecode => ?_, fun w hinstr hdecode => ?_⟩
  · have hfetch : s.fetch = .ok (s.word s.progCur s.pc) := by rw [State.fetch, hinstr]; exact load_reached s _ _ hreach
    have hnext : s.decodeNext (s.word s.progCur s.pc) = some i := by simpa [State.decodeNext, State.alternativeNext, hinstr] using hdecode
    have htaken : s.taken = s := by rw [State.taken, ← hinstr]
    simp only [step, hnmi, Bool.false_eq_true, if_false, hfetch, hnext, htaken]
  · have hfetch : s.fetch = .ok w := by rw [State.fetch, hinstr]
    have hnext : s.decodeNext w = some i := by simpa [State.decodeNext, State.alternativeNext, hinstr] using hdecode
    simp only [step, hnmi, Bool.false_eq_true, if_false, hfetch, hnext, State.taken]

theorem launch_next_self (s : State) (alternative : Bool) : s.launch alternative = .next s ↔ s.launchable alternative = true := by
  simp [launch_next]

/-- A run from a state that does not meet R421 is refused (U14). -/
theorem run_refused {s : State} {alternative : Bool} (h : s.launch alternative ≠ .next s) :
    run alternative s = .refused .launchState := by
  rw [ne_eq, launch_next_self] at h
  rw [run, State.launch, if_neg h]

/-- Settles O7. -/
theorem resetHasTheInvariant : Obligations.ResetHasTheInvariant := by
  refine ⟨⟨?_, rfl, rfl, rfl, rfl, rfl, rfl⟩, rfl, fun s alternative => ⟨?_, run_refused⟩⟩
  · exact ⟨reset_wf.1, reset_wf.2, fun _ => rfl, rfl, fun hsome => absurd hsome (by decide)⟩
  · rw [launch_next_self, launchable_iff]

/-- Settles O49. -/
theorem trapStopsWithCauseOne : Obligations.TrapStopsWithCauseOne := fun s _ => trap_stops s

/-! ### Bytes and words of memory -/

theorem byteWord_even (a : Word) : byteWord (2 * a.toNat) = a := by simp [byteWord]

theorem byteWord_odd (a : Word) : byteWord (2 * a.toNat + 1) = a := by
  have hhalf : (2 * a.toNat + 1) / 2 = a.toNat := by omega
  simp [byteWord, hhalf]

theorem byteAt_even (s : State) (p : Byte) (a : Word) : s.byteAt p (2 * a.toNat) = lowByte (s.word p a) := by
  rw [State.byteAt, if_pos (by omega), byteWord_even]

theorem byteAt_odd (s : State) (p : Byte) (a : Word) : s.byteAt p (2 * a.toNat + 1) = highByte (s.word p a) := by
  rw [State.byteAt, if_neg (by omega), byteWord_odd]

/-- The other byte of the word is unchanged (R90). -/
theorem putByte_word_even (s : State) (p : Byte) (a : Word) (b : Byte) :
    (s.putByte p (2 * a.toNat) b).word p a = highByte (s.word p a) ++ b := by
  have hindex : byteIndex p (2 * a.toNat) = 2 * wordIndex p a := by rw [byteIndex, byteWord_even]; omega
  simp only [State.word, State.putByte, Memory.readWord, readByte_writeByte, hindex, highByte_wordOf, if_true]
  rw [if_neg (by omega)]
  rfl

theorem putByte_word_odd (s : State) (p : Byte) (a : Word) (b : Byte) :
    (s.putByte p (2 * a.toNat + 1) b).word p a = b ++ lowByte (s.word p a) := by
  have hindex : byteIndex p (2 * a.toNat + 1) = 2 * wordIndex p a + 1 := by rw [byteIndex, byteWord_odd]; omega
  simp only [State.word, State.putByte, Memory.readWord, readByte_writeByte, hindex, lowByte_wordOf, if_true]
  rw [if_neg (by omega)]
  rfl

/-- Settles O60. -/
theorem bytesAndWordsOfMemory : Obligations.BytesAndWordsOfMemory := by
  intro s p a v b
  refine ⟨⟨?_, ?_⟩, ⟨putByte_word_even s p a b, putByte_word_odd s p a b⟩, putWord_word s p a v, fun hwf => ?_⟩
  · rw [byteAt_even, putWord_word, if_pos ⟨rfl, rfl⟩]
  · rw [byteAt_odd, putWord_word, if_pos ⟨rfl, rfl⟩]
  · exact ⟨wf_writeWord _ _ _ hwf, wf_writeByte _ _ _ hwf, wf_writeByte _ _ _ hwf⟩

end Sys2Proof.Machine
end

section
/-! PROOF. The arithmetic of 43_arith_logic.md that carries and overflows, MUL and DIV (R216 to R222), and the long shifts of 45_shift.md (R285,
R286): the sums, the quotients and the shifted pairs as numbers. -/

namespace Sys2Proof.Machine

/-! ### The sums (R215) -/

theorem outOfRange_eq (r : Int) : outOfRange r = decide (r < -32768 ∨ 32767 < r) := by rw [outOfRange, Bool.decide_or]

theorem addCC_result (w v : Word) (cin : Bool) : (addCC w v cin).result = w + v + BitVec.ofNat 16 (carryIn cin) := by
  simp only [addCC, BitVec.ofNat_add, BitVec.ofNat_toNat, BitVec.setWidth_eq]

theorem addCC_without_carry (w v : Word) :
    addCC w v false = ⟨w + v, decide (65536 ≤ w.toNat + v.toNat), decide (w.toInt + v.toInt < -32768 ∨ 32767 < w.toInt + v.toInt)⟩ := by
  have hresult := addCC_result w v false
  simp only [carryIn, Bool.false_eq_true, if_false, BitVec.add_zero] at hresult
  rw [← hresult]
  simp [addCC, carryIn, outOfRange_eq]

theorem addCC_with_carry (w v : Word) (cin : Bool) :
    let n : Nat := if cin then 1 else 0
    addCC w v cin = ⟨w + v + BitVec.ofNat 16 n, decide (65536 ≤ w.toNat + v.toNat + n),
      decide (w.toInt + v.toInt + n < -32768 ∨ 32767 < w.toInt + v.toInt + n)⟩ := by
  intro n
  rw [← outOfRange_eq]
  exact congrArg (fun r => (⟨r, (addCC w v cin).carry, (addCC w v cin).overflow⟩ : Sum)) (addCC_result w v cin)

/-- The complement plus one less the borrow is the difference: C = 1 means no borrow (R44). -/
theorem subCC_with_borrow (w v : Word) (cin : Bool) :
    let borrow : Nat := if cin then 0 else 1
    subCC w v cin = ⟨w - v - BitVec.ofNat 16 borrow, decide (v.toNat + borrow ≤ w.toNat),
      decide (w.toInt - v.toInt - borrow < -32768 ∨ 32767 < w.toInt - v.toInt - borrow)⟩ := by
  intro borrow
  have hnot : (~~~v).toNat = 65535 - v.toNat := BitVec.toNat_not
  have hv := v.isLt
  have hw := w.isLt
  rw [← outOfRange_eq]
  cases cin
  · simp only [subCC, carryIn, borrow, Bool.false_eq_true, if_false, hnot, Sum.mk.injEq, decide_eq_decide]
    refine ⟨BitVec.eq_of_toNat_eq ?_, by omega, by simp⟩
    simp only [BitVec.toNat_ofNat, BitVec.toNat_sub]
    omega
  · simp only [subCC, carryIn, borrow, if_true, hnot, Sum.mk.injEq, decide_eq_decide]
    refine ⟨BitVec.eq_of_toNat_eq ?_, by omega, by simp⟩
    simp only [BitVec.toNat_ofNat, BitVec.toNat_sub]
    omega

theorem subCC_without_borrow (w v : Word) :
    subCC w v true = ⟨w - v, decide (v.toNat ≤ w.toNat), decide (w.toInt - v.toInt < -32768 ∨ 32767 < w.toInt - v.toInt)⟩ := by
  simpa using subCC_with_borrow w v true

/-! ### The whole effect of the instructions that set the flags -/

section
variable {i : Instr} {s : State} {o1 o2 : Operand} {l1 l2 : Loc} {v w : Word} {u : Sum}

/-- A sum with its flags put where OP2 stands (R217 to R220). -/
theorem writesWithFlags_of_arithmetic {f : Word → Word → Bool → Sum} {cin : Bool} (he : exec i s = outcome (arithmetic f cin o1 o2 s))
    (h1 : o1.Designates s l1 v) (h2 : o2.Designates s l2 w) (hf : f w v cin = u) :
    WritesWithFlags i s l2 u.result u.carry u.overflow := by
  obtain ⟨rfl, hr1, rfl⟩ := h1
  obtain ⟨rfl, hr2, rfl⟩ := h2
  subst hf
  exact writesWithFlags_of he ((arithmetic_ok _ _ _ _ _ _).mpr ⟨hr1, hr2, rfl⟩)

/-- A constant added to a register (R216). -/
theorem writesWithFlags_of_addConstant {r : RegNum} (he : exec i s = .next (addConstant v r s)) :
    WritesWithFlags i s (.reg r) (s.reg r + v) (decide (65536 ≤ (s.reg r).toNat + v.toNat))
      (decide ((s.reg r).toInt + v.toInt < -32768 ∨ 32767 < (s.reg r).toInt + v.toInt)) := by
  have hsum : addConstant v r s = ((s.putAt (.reg r) (addCC (s.reg r) v false).result).setCC (addCC (s.reg r) v false).carry
    (addCC (s.reg r) v false).overflow).finish := rfl
  rw [addCC_without_carry] at hsum
  exact writesWithFlags_of (run := .ok (addConstant v r s)) he (congrArg Except.ok hsum)

end

/-- Settles O24: the constant, negated in the CN form before MOD is added, as the addend of a sum (R216). -/
theorem addConstantAddsWithFlags : Obligations.AddConstantAddsWithFlags := fun _ _ _ =>
  ⟨writesWithFlags_of_addConstant rfl, writesWithFlags_of_addConstant rfl⟩

/-- Settles O25: ADD and ADDU of any two operands, and the two forms of ADD with an operand at M B6.X2 (R217, R218). -/
theorem addAddsWithFlags : Obligations.AddAddsWithFlags := by
  intro s
  refine ⟨fun a f1 b f2 hr1 hr2 => ?operands, fun x d r => ?indexed⟩
  case operands =>
    have h1 := designates_loc hr1
    have h2 := designates_loc hr2
    exact ⟨writesWithFlags_of_arithmetic rfl h1 h2 (addCC_without_carry _ _),
      writesWithFlags_of_arithmetic rfl h1 h2 (addCC_with_carry _ _ _)⟩
  case indexed =>
    intro a hr
    have hreg := designates_reg s r
    have hword := designates_b6x2 hr
    exact ⟨writesWithFlags_of_arithmetic rfl hword hreg (addCC_without_carry _ _),
      writesWithFlags_of_arithmetic rfl hreg hword (addCC_without_carry _ _)⟩

/-- Settles O26: SUB and SUBU of any two operands (R219, R220). -/
theorem subtractSubtractsWithFlags : Obligations.SubtractSubtractsWithFlags := by
  intro s a f1 b f2 hr1 hr2
  have h1 := designates_loc hr1
  have h2 := designates_loc hr2
  exact ⟨writesWithFlags_of_arithmetic rfl h1 h2 (subCC_without_borrow _ _),
    writesWithFlags_of_arithmetic rfl h1 h2 (subCC_with_borrow _ _ _)⟩

/-! ### MUL and DIV -/

/-- The product of two signed words is never too large for 32 bits (R221, D17). -/
theorem product_toInt (v w : Word) : (product v w).toInt = v.toInt * w.toInt := by
  have hv := BitVec.le_toInt v
  have hv' := BitVec.toInt_lt (x := v)
  have hw := BitVec.le_toInt w
  have hw' := BitVec.toInt_lt (x := w)
  have hle : |v.toInt * w.toInt| ≤ 2 ^ 15 * 2 ^ 15 := by
    rw [abs_mul]
    exact mul_le_mul (abs_le.mpr ⟨by simpa using hv, by simp at hv'; omega⟩) (abs_le.mpr ⟨by simpa using hw, by simp at hw'; omega⟩)
      (abs_nonneg _) (by norm_num)
  rw [product, BitVec.toInt_ofInt]
  apply Int.bmod_eq_of_le
  · have := (abs_le.mp hle).1
    omega
  · have := (abs_le.mp hle).2
    omega

section
variable {i : Instr} {s : State} {o : Operand} {l : Loc} {v : Word} {r : RegNum}

/-- The product at OP2 and its successor, low half first (R221). -/
theorem writesBoth_of_multiply {a : Word} (he : exec i s = outcome (multiply o r s)) (h : o.Designates s l v)
    (ha : s.base + s.reg r + s.mod = a) (hr1 : s.dataReaches a) (hr2 : s.dataReaches (a + 1)) :
    WritesBoth i s (.data a) ((product v (s.data a)).extractLsb' 0 16) (.data (a + 1)) ((product v (s.data a)).extractLsb' 16 16) := by
  obtain ⟨rfl, hr, rfl⟩ := h
  subst ha
  exact writesBoth_of he ((multiply_ok _ _ _ _).mpr ⟨hr, hr1, hr2, rfl⟩)

/-- Quotient and remainder in a register and its successor (R222). -/
theorem writesBoth_of_divide (he : exec i s = outcome (divide o r s)) (h : o.Designates s l v) (hv : v ≠ 0) :
    let n := (s.reg (succReg r)).toNat * 65536 + (s.reg r).toNat
    WritesBoth i s (.reg r) (BitVec.ofNat 16 (n / v.toNat)) (.reg (succReg r)) (BitVec.ofNat 16 (n % v.toNat)) := by
  obtain ⟨rfl, hr, rfl⟩ := h
  refine writesBoth_of he ((divide_ok _ _ _ _).mpr ⟨hr, ?_⟩)
  rw [if_neg hv]
  rfl

/-- A division by zero leaves both registers at values that nothing constrains (R222, D16). -/
theorem answers_of_divide_by_zero (he : exec i s = outcome (divide o r s)) (h : o.Designates s l v) (hv : v = 0) :
    Answers i s fun t =>
      (∀ q, q ≠ r → q ≠ succReg r → t.reg q = s.reg q) ∧ MemKept s t ∧ t.psw = s.psw ∧ SpecialsKept s t ∧ EndsAfter s t 1 := by
  obtain ⟨rfl, hr, rfl⟩ := h
  have hrun : divide o r s = .ok (s.divideByZero r).finish := (divide_ok _ _ _ _).mpr ⟨hr, by rw [if_pos hv]⟩
  refine answers_of he hrun ⟨fun q hq hq' => ?_, fun _ => rfl, rfl, rfl, rfl, rfl, rfl⟩
  simp [State.divideByZero, hq, hq']

end

/-- Settles O28: the product as an integer (R221), the quotient and remainder as numbers, and the division by zero (R222). -/
theorem multiplyAndDivide : Obligations.MultiplyAndDivide := by
  intro s a f1 f2 hr
  have h1 := designates_loc hr
  refine ⟨fun hr1 hr2 => ?product, fun hv => ?quotient, fun hv => ?zero⟩
  case product => exact ⟨_, product_toInt _ _, writesBoth_of_multiply rfl h1 rfl hr1 hr2⟩
  case quotient => exact writesBoth_of_divide rfl h1 hv
  case zero => exact answers_of_divide_by_zero rfl h1 hv

/-! ### The long shifts (R285, R286) -/

/-- A pair of words as a number, its successor high. -/
theorem pair_toNat (high low : Word) : (high ++ low).toNat = high.toNat * 65536 + low.toNat := by
  rw [BitVec.toNat_append, Nat.shiftLeft_eq, ← Nat.mul_comm (2 ^ 16), ← Nat.two_pow_add_eq_or_of_lt low.isLt]

/-- The two halves of a pair, as numbers. -/
theorem halves_of_toNat {u : BitVec 32} {m : Nat} (h : u.toNat = m % 2 ^ 32) :
    u.extractLsb' 0 16 = BitVec.ofNat 16 m ∧ u.extractLsb' 16 16 = BitVec.ofNat 16 (m / 65536) := by
  constructor
  · apply BitVec.eq_of_toNat_eq
    simp only [BitVec.extractLsb'_toNat, BitVec.toNat_ofNat, h, Nat.shiftRight_zero]
    omega
  · apply BitVec.eq_of_toNat_eq
    simp only [BitVec.extractLsb'_toNat, BitVec.toNat_ofNat, h, Nat.shiftRight_eq_div_pow]
    omega

section
variable {i j : Instr} {s : State} {o : Operand} {l : Loc} {v : Word} {c : BitVec 4}

/-- A place and its successor shifted as one number (R285, R286). -/
theorem writesBoth_of_shiftLong {f : BitVec 32 → Nat → BitVec 32} {m : Nat} (he : exec i s = outcome (shiftLong f o c s))
    (h : o.Designates s l v) (hr' : s.placeReaches l.succ) (hm : (f (s.valueAt l.succ ++ v) (s.shiftCount c)).toNat = m % 2 ^ 32) :
    WritesBoth i s l (BitVec.ofNat 16 m) l.succ (BitVec.ofNat 16 (m / 65536)) := by
  obtain ⟨rfl, hr, rfl⟩ := h
  obtain ⟨hlow, hhigh⟩ := halves_of_toNat hm
  rw [← hlow, ← hhigh]
  exact writesBoth_of he ((shiftLong_ok _ _ _ _ _).mpr ⟨hr, hr', rfl⟩)

/-- SLLL and SRLL of one operand and its successor, wherever they are. -/
theorem writesBoth_long_shifts (hi : exec i s = outcome (shiftLong shiftLeftLong o c s))
    (hj : exec j s = outcome (shiftLong shiftRightLong o c s)) (h : o.Designates s l v) (hr' : s.placeReaches l.succ) :
    let n := s.shiftCount c
    let D := (s.valueAt l.succ).toNat * 65536 + v.toNat
    WritesBoth i s l (BitVec.ofNat 16 (D * 2 ^ n)) l.succ (BitVec.ofNat 16 (D * 2 ^ n / 65536)) ∧
      WritesBoth j s l (BitVec.ofNat 16 (D / 2 ^ n)) l.succ (BitVec.ofNat 16 (D / 2 ^ n / 65536)) := by
  refine ⟨writesBoth_of_shiftLong hi h hr' ?left, writesBoth_of_shiftLong hj h hr' ?right⟩
  case left => rw [shiftLeftLong, BitVec.toNat_shiftLeft, pair_toNat, Nat.shiftLeft_eq]
  case right =>
    have hlt := (s.valueAt l.succ ++ v).isLt
    rw [pair_toNat] at hlt
    rw [shiftRightLong, BitVec.toNat_ushiftRight, pair_toNat, Nat.shiftRight_eq_div_pow]
    exact (Nat.mod_eq_of_lt ((Nat.div_le_self _ _).trans_lt hlt)).symm

end

/-- Settles O35: SLLL and SRLL of a register and of the word at X3, each with its successor. -/
theorem longShiftsShiftAPair : Obligations.LongShiftsShiftAPair := by
  intro s r c
  refine ⟨?registers, fun hr hr' => ?words⟩
  case registers => exact writesBoth_long_shifts rfl rfl (designates_reg s r) trivial
  case words => exact writesBoth_long_shifts rfl rfl (designates_x3 hr) hr'

end Sys2Proof.Machine
end

section
/-! PROOF. MMP, MOVB and MOVL of 41_move.md (R183, R184, R186), page zero and the conditional jumps of 42_jump.md (R205 to R210), the transfers of
47_io.md (R300 to R304) and the saves of 48_special.md (R313, R314, R316, R320). -/

namespace Sys2Proof.Machine

/-! ### MMP -/

/-- Settles O14: the page is that of the caller (R186). -/
theorem moveMonitorParameterReadsTheCallersPage : Obligations.MoveMonitorParameterReadsTheCallersPage := by
  intro s f1 f2
  have hmeaning : exec (.mmp f1 f2) s = outcome (moveProgram s.monitorCallerPage (s.prog + s.reg f1 + s.mod) f2 s) := rfl
  refine ⟨fun hlevel hr => ?user, fun h1 h8000 hr => ?system⟩
  case user =>
    rw [State.monitorCallerPage, if_pos hlevel] at hmeaning
    exact writes_of_moveProgram hmeaning hr
  case system =>
    rw [State.monitorCallerPage, if_neg (not_or.mpr ⟨h1, h8000⟩)] at hmeaning
    exact writes_of_moveProgram hmeaning hr

/-! ### MOVB and MOVL -/

section
variable {i : Instr} {s : State} {r : RegNum} {a : Word} {ba : Nat}

/-- A byte loaded into the lower half of a register (R183). -/
theorem writes_of_moveByteIn (he : exec i s = outcome (moveByteIn ba r s)) (hr : s.dataReaches (byteWord ba)) :
    Writes i s (.reg r) (zext (s.byteAt s.dataPage ba)) :=
  writes_of he ((moveByteIn_ok _ _ _ _).mpr ⟨hr, rfl⟩)

/-- The lower half of a register stored at a byte address (R183). -/
theorem answers_of_moveByteOut (he : exec i s = outcome (moveByteOut r ba s)) (hr : s.dataReaches (byteWord ba)) :
    Answers i s fun t =>
      ByteSet s t s.dataPage ba (lowByte (s.reg r)) ∧ RegsKept s t ∧ PswKept s t ∧ SpecialsKept s t ∧ EndsAfter s t 1 :=
  answers_of he ((moveByteOut_ok _ _ _ _).mpr ⟨hr, rfl⟩) ⟨byteSet_of_mem rfl, fun _ => rfl, ⟨rfl, rfl⟩, rfl, rfl, rfl, rfl⟩

/-- Two words loaded into a register and its successor (R184). -/
theorem writesBoth_of_moveLongIn (he : exec i s = outcome (moveLongIn a r s)) (hr : s.dataReaches a) (hr' : s.dataReaches (a + 1)) :
    WritesBoth i s (.reg r) (s.data a) (.reg (succReg r)) (s.data (a + 1)) :=
  writesBoth_of he ((moveLongIn_ok _ _ _ _).mpr ⟨hr, hr', rfl⟩)

/-- A register and its successor stored (R184). -/
theorem writesBoth_of_moveLongOut (he : exec i s = outcome (moveLongOut r a s)) (hr : s.dataReaches a) (hr' : s.dataReaches (a + 1)) :
    WritesBoth i s (.data a) (s.reg r) (.data (a + 1)) (s.reg (succReg r)) :=
  writesBoth_of he ((moveLongOut_ok _ _ _ _).mpr ⟨hr, hr', rfl⟩)

end

/-- Settles O15: MOVB at the byte address (R183), MOVL at the word address, which only the store modifies (R184). -/
theorem moveByteAndMoveLong : Obligations.MoveByteAndMoveLong := by
  intro s x d q
  refine ⟨fun hr => ⟨writes_of_moveByteIn rfl hr, answers_of_moveByteOut rfl hr⟩, fun hr hr' => ?load, fun hr hr' => ?store⟩
  case load => exact writesBoth_of_moveLongIn (by rw [← BitVec.add_zero (s.base + _ + _), ← disp_address]; rfl) hr hr'
  case store => exact writesBoth_of_moveLongOut (by rw [← disp_address]; rfl) hr hr'

/-! ### Page zero -/

/-- LEVEL bit 15 set. -/
theorem insertBits_set_level (level : Word) : insertBits level 15 (BitVec.ofBool true) = level ||| 0x8000 := by
  apply BitVec.eq_of_getLsbD_eq
  intro i hi
  have hmask : (0x8000 : Word) = BitVec.twoPow 16 15 := rfl
  rw [getLsbD_insertBits _ _ _ _ hi, BitVec.getLsbD_or, hmask, BitVec.getLsbD_twoPow]
  by_cases h15 : i = 15
  · simp [h15]
  · rw [if_neg (by omega)]
    simp [Ne.symm h15]

/-- LEVEL bit 15 cleared. -/
theorem insertBits_clear_level (level : Word) : insertBits level 15 (BitVec.ofBool false) = level &&& 0x7FFF := by
  apply BitVec.eq_of_getLsbD_eq
  intro i hi
  have hmask : (0x7FFF : Word) = ~~~BitVec.twoPow 16 15 := rfl
  rw [getLsbD_insertBits _ _ _ _ hi, BitVec.getLsbD_and, hmask, BitVec.getLsbD_not, BitVec.getLsbD_twoPow]
  by_cases h15 : i = 15
  · simp [h15]
  · rw [if_neg (by omega)]
    simp [Ne.symm h15, hi]

/-- Settles O22: JPZI (R205) and RPZ (R206). -/
theorem pageZeroIsEnteredAndLeft : Obligations.PageZeroIsEnteredAndLeft := by
  intro s
  refine ⟨fun k hr => ?enter, fun x d => ?leave⟩
  case enter =>
    refine answers_of rfl ((jumpPageZero_ok _ _ _).mpr ⟨hr, rfl⟩)
      ⟨placeSet_putAt s (.reg 4) s.link, pswChanged_of_insertBit (by decide) rfl rfl, ?_, rfl, rfl, rfl⟩
    rw [← insertBits_set_level]
    rfl
  case leave =>
    refine ⟨_, rfl, fun _ => rfl, fun _ => rfl, pswChanged_of_insertBit (by decide) rfl rfl, ?_, ?_, rfl, rfl⟩
    · rw [← insertBits_clear_level]
      rfl
    · exact progAddress_indexed_prog_last s x d

/-! ### Conditional jumps -/

section
variable {i j : Instr} {s : State} {o : Operand} {l : Loc} {v d : Word} {r : RegNum}

/-- The whole effect of JON and JOZ unmodified: nothing but LOC changes. -/
def Branches (i : Instr) (s : State) (a : Word) : Prop := Answers i s fun t => SameAs s t ∧ ModificationKept s t ∧ t.pc = a

/-- JON and JOZ unmodified, by whether the operand is zero (R207, R208). -/
theorem branches_of_jumpOn {zero : Bool} (he : exec i s = outcome (jumpOn zero o d s)) (hm : s.modified = false) (h : o.Designates s l v) :
    Branches i s (if (v == 0) = zero then s.pc + 1 + d else s.pc + 1) := by
  obtain ⟨rfl, hr, rfl⟩ := h
  have hrun := (jumpOn_ok zero o d s _).mpr ⟨hm, hr, rfl⟩
  refine answers_of he hrun ?_
  split
  · exact ⟨⟨fun _ => rfl, fun _ => rfl, ⟨rfl, rfl⟩, rfl⟩, ⟨rfl, rfl⟩, (BitVec.add_assoc ..).symm⟩
  · exact ⟨⟨fun _ => rfl, fun _ => rfl, ⟨rfl, rfl⟩, rfl⟩, ⟨rfl, rfl⟩, rfl⟩

/-- JON and JOZ of one operand, wherever it is, forwards and backwards. -/
theorem branches_on_operand {jn jnn jz jzn : Instr} (c : BitVec 4) (hjn : exec jn s = outcome (jumpOn false o (zext c) s))
    (hjnn : exec jnn s = outcome (jumpOn false o (negated c) s)) (hjz : exec jz s = outcome (jumpOn true o (zext c) s))
    (hjzn : exec jzn s = outcome (jumpOn true o (negated c) s)) (hm : s.modified = false) (h : o.Designates s l v) :
    Branches jn s (if v ≠ 0 then s.pc + 1 + zext c else s.pc + 1) ∧ Branches jnn s (if v ≠ 0 then s.pc + 1 - zext c else s.pc + 1) ∧
      Branches jz s (if v = 0 then s.pc + 1 + zext c else s.pc + 1) ∧ Branches jzn s (if v = 0 then s.pc + 1 - zext c else s.pc + 1) := by
  have hback : s.pc + 1 + negated c = s.pc + 1 - zext c := (BitVec.sub_eq_add_neg ..).symm
  have hnonzero : ((v == 0) = false) ↔ v ≠ 0 := beq_eq_false_iff_ne
  have hzero : ((v == 0) = true) ↔ v = 0 := beq_iff_eq
  simp only [← hback, ← hnonzero, ← hzero]
  exact ⟨branches_of_jumpOn hjn hm h, branches_of_jumpOn hjnn hm h, branches_of_jumpOn hjz hm h, branches_of_jumpOn hjzn hm h⟩

/-- JON and JOZ are refused while MODIFIED is true (D14). -/
theorem refused_of_jumpOn {zero : Bool} (he : exec i s = outcome (jumpOn zero o d s)) (hm : s.modified = true) :
    exec i s = .refused .jumpWhileModified := by
  rw [he, jumpOn, if_pos hm]
  rfl

/-- JVN (R209). -/
theorem jumps_of_jumpNoOverflow (he : exec i s = .next (jumpNoOverflow d s)) (h : s.relative d = v) :
    Jumps i s (if s.overflow = false then v else s.pc + 1) := by
  rw [← h]
  refine jumps_of (r := .ok (jumpNoOverflow d s)) he ?_
  unfold jumpNoOverflow
  cases s.overflow
  · rfl
  · rfl

/-- SOB (R210). -/
theorem answers_of_subtractAndBranch (he : exec i s = .next (subtractAndBranch r d s)) (h : s.relative d = v) :
    Answers i s fun t => PlaceSet s t (.reg r) (s.reg r - 1) ∧ PswKept s t ∧ SpecialsKept s t ∧
      EndsAt t (if s.reg r - 1 ≠ 0 then v else s.pc + 1) := by
  refine ⟨_, he, ?_⟩
  have hset := placeSet_putAt s (.reg r) (s.reg r - 1)
  have hvalue : (s.setReg r (s.reg r - 1)).reg r = s.reg r - 1 := by simp
  unfold subtractAndBranch
  dsimp only
  rw [hvalue, ite_not, ← h]
  split
  · exact ⟨hset, ⟨rfl, rfl⟩, rfl, rfl, rfl, rfl⟩
  · exact ⟨hset, ⟨rfl, rfl⟩, rfl, rfl, rfl, rfl⟩

end

/-- Settles O23: JON and JOZ of a register and of the word at X3 (R207, R208), both refused while modified (D14), JVN (R209) and SOB (R210). -/
theorem conditionalJumps : Obligations.ConditionalJumps := by
  intro s
  refine ⟨fun hm r c => ?unmodified, fun hm r c i hi => ?modified, fun c => ?overflow, fun k r => ?subtract⟩
  case unmodified =>
    obtain ⟨hjn, hjnn, hjz, hjzn⟩ := branches_on_operand (jn := .jonRL4 r c) (jnn := .jonRLn4 r c) (jz := .jozRL4 r c) (jzn := .jozRLn4 r c)
      c rfl rfl rfl rfl hm (designates_reg s r)
    exact ⟨hjn, hjnn, hjz, hjzn, fun hr => branches_on_operand c rfl rfl rfl rfl hm (designates_x3 hr)⟩
  case modified =>
    simp only [List.mem_cons, List.not_mem_nil, or_false] at hi
    obtain rfl | rfl | rfl | rfl | rfl | rfl | rfl | rfl := hi
    all_goals exact refused_of_jumpOn rfl hm
  case overflow => exact ⟨jumps_of_jumpNoOverflow rfl rfl, jumps_of_jumpNoOverflow rfl (relative_negated s c)⟩
  case subtract => exact answers_of_subtractAndBranch rfl (relative_negated s k)

/-! ### Input and output -/

section
variable {i : Instr} {s : State} {o : Operand} {l : Loc} {k : IoKind} {f1 : RegNum} {v w : Word}

/-- A word from a device (R300). -/
theorem answers_of_input (he : exec i s = outcome (input k o f1 s)) (ho : o.loc s = l) (hl : s.placeReaches l)
    (hd : s.deviceAnswers k (s.reg f1 + s.mod) v) :
    Answers i s fun t => PlaceSet s t l v ∧ PswKept s t ∧
      SpecialsKept (s.transferred k (s.reg f1 + s.mod) (.ioIn k (s.reg f1 + s.mod) v)) t ∧ EndsAfter s t 1 := by
  subst ho
  refine answers_of he ((input_ok _ _ _ _ _).mpr ⟨v, hd, hl, rfl⟩) ?_
  have hset := placeSet_putAt (s.transferred k (s.device f1) (.ioIn k (s.device f1) v)) (o.loc s) v
  revert hset
  cases o.loc s
  · exact fun hset => ⟨hset, ⟨rfl, rfl⟩, rfl, rfl, rfl, rfl⟩
  · exact fun hset => ⟨hset, ⟨rfl, rfl⟩, rfl, rfl, rfl, rfl⟩

/-- A word to a device (R300). -/
theorem becomes_of_output (he : exec i s = outcome (output k o f1 s)) (h : o.Designates s l w)
    (hd : s.deviceAnswers k (s.reg f1 + s.mod) v) :
    Becomes i s (s.transferred k (s.reg f1 + s.mod) (.ioOut k (s.reg f1 + s.mod) w)) := by
  obtain ⟨rfl, hr, rfl⟩ := h
  exact becomes_of he ((output_ok _ _ _ _ _).mpr ⟨hr, ⟨v, hd⟩, rfl⟩) rfl

end

/-- Settles O38: the data in a register and at X3 for each of the four (R301 to R304). -/
theorem inputAndOutputTransferAWord : Obligations.InputAndOutputTransferAWord := by
  intro s f1 f2 v
  refine ⟨fun hd => ⟨?_, fun hr => ?_⟩, fun hd => ⟨?_, fun hr => ?_⟩, fun hd => ⟨?_, fun hr => ?_⟩, fun hd => ⟨?_, fun hr => ?_⟩⟩
  · exact answers_of_input rfl rfl trivial hd
  · exact answers_of_input rfl (loc_x3 s f2) hr hd
  · exact answers_of_input rfl rfl trivial hd
  · exact answers_of_input rfl (loc_x3 s f2) hr hd
  · exact becomes_of_output rfl (designates_reg s f2) hd
  · exact becomes_of_output rfl (designates_x3 hr) hd
  · exact becomes_of_output rfl (designates_reg s f2) hd
  · exact becomes_of_output rfl (designates_x3 hr) hd

/-! ### The saves of a register of the CPU -/

/-- A register of the CPU put where the operand is (R313, R316, R320). -/
theorem writes_of_saveValue {i : Instr} {s : State} {o : Operand} {l : Loc} {v w : Word} (he : exec i s = outcome (saveValue v o s))
    (h : o.Designates s l w) : Writes i s l v := by
  obtain ⟨rfl, hr, rfl⟩ := h
  exact writes_of he ((saveValue_ok _ _ _ _).mpr ⟨hr, rfl⟩)

/-- Settles O39: each save to a register and to the word at M B0.X3. -/
theorem saveInstructionsSaveARegister : Obligations.SaveInstructionsSaveARegister := by
  intro s r
  refine ⟨?register, fun hr => ?word⟩
  case register =>
    have hreg := designates_reg s r
    exact ⟨writes_of_saveValue rfl hreg, writes_of_saveValue rfl hreg, writes_of_saveValue rfl hreg, writes_of_saveValue rfl hreg⟩
  case word =>
    have hword := designates_b0x3 hr
    exact ⟨writes_of_saveValue rfl hword, writes_of_saveValue rfl hword, writes_of_saveValue rfl hword, writes_of_saveValue rfl hword⟩

end Sys2Proof.Machine
end

section
/-! PROOF. The rest of 48_special.md: SVP and NMI, which save a context (R94, R318, R330), XCU and XCUI (R324, R326), MON, RTM and RTMI (R325, R327,
R328), CPU (R329), and CAE, CAD, TST and ALT (R332 to R335). -/

namespace Sys2Proof.Machine

/-! ### Several words of a page written one after the other -/

/-- Memory after words, given by address and value, are written to a page in the order of a list. -/
def writtenWords (p : Byte) : List (Word × Word) → Memory → Memory
  | [], m => m
  | w :: ws, m => writtenWords p ws (m.writeWord (wordIndex p w.1) w.2)

theorem writtenWords_append (p : Byte) (ws ws' : List (Word × Word)) (m : Memory) :
    writtenWords p (ws ++ ws') m = writtenWords p ws' (writtenWords p ws m) := by
  induction ws generalizing m with
  | nil => rfl
  | cons w ws ih => exact ih _

theorem readByte_writtenWords_outside {p : Byte} {ws : List (Word × Word)} {n : Nat} (hn : n / 2 ∉ ws.map fun w => wordIndex p w.1)
    (m : Memory) : (writtenWords p ws m).readByte n = m.readByte n := by
  induction ws generalizing m with
  | nil => rfl
  | cons w ws ih =>
    obtain ⟨hfirst, hrest⟩ := not_or.mp (mt List.mem_cons.mpr hn)
    rw [writtenWords, ih hrest, readByte_writeWord_outside _ _ _ _ hfirst]

theorem readWord_writtenWords_outside {p : Byte} {ws : List (Word × Word)} {a : Word} (ha : a ∉ ws.map Prod.fst) (m : Memory) :
    (writtenWords p ws m).readWord (wordIndex p a) = m.readWord (wordIndex p a) := by
  induction ws generalizing m with
  | nil => rfl
  | cons w ws ih =>
    obtain ⟨hfirst, hrest⟩ := not_or.mp (mt List.mem_cons.mpr ha)
    rw [writtenWords, ih hrest, readWord_writeWord, if_neg fun h => hfirst ((wordIndex_inj _ _ _ _).mp h).2]

theorem readWord_writtenWords {p : Byte} {ws : List (Word × Word)} (hd : (ws.map Prod.fst).Nodup) (m : Memory) {w : Word × Word}
    (hw : w ∈ ws) : (writtenWords p ws m).readWord (wordIndex p w.1) = w.2 := by
  induction ws generalizing m with
  | nil => exact absurd hw List.not_mem_nil
  | cons v ws ih =>
    obtain ⟨hfirst, hrest⟩ := List.nodup_cons.mp hd
    obtain rfl | hw := List.mem_cons.mp hw
    · rw [writtenWords, readWord_writtenWords_outside hfirst, readWord_writeWord_same]
    · exact ih hrest _ hw

/-- Words at different addresses that were written are set. -/
theorem wordsSet_of_mem {s t : State} {p : Byte} {ws : List (Word × Word)} (hd : (ws.map Prod.fst).Nodup)
    (h : t.mem = writtenWords p ws s.mem) : WordsSet s t p ws := by
  refine ⟨fun w hw => ?_, fun n hn => ?_⟩
  · rw [State.word, h, readWord_writtenWords hd _ hw]
  · rw [h, readByte_writtenWords_outside hn]

/-- In which order the words are given does not matter. -/
theorem WordsSet.perm {s t : State} {p : Byte} {ws ws' : List (Word × Word)} (h : WordsSet s t p ws) (hp : ws.Perm ws') :
    WordsSet s t p ws' :=
  ⟨fun w hw => h.1 w (hp.mem_iff.mpr hw), fun n hn => h.2 n fun hmem => hn ((hp.map _).mem_iff.mp hmem)⟩

/-- Words at ascending addresses, the first at `a`. -/
def wordsFrom (a : Word) (vs : List Word) : List (Word × Word) := vs.zipIdx.map fun v => (a + BitVec.ofNat 16 v.2, v.1)

theorem storedWords_mem (s : State) (p : Byte) (a : Word) (vs : List Word) (n : Nat) :
    (storedWords s p (a + BitVec.ofNat 16 n) vs).mem =
      writtenWords p ((vs.zipIdx n).map fun v => (a + BitVec.ofNat 16 v.2, v.1)) s.mem := by
  induction vs generalizing s n with
  | nil => rfl
  | cons v vs ih =>
    have hnext : a + BitVec.ofNat 16 n + 1 = a + BitVec.ofNat 16 (n + 1) := by
      rw [BitVec.add_assoc, BitVec.ofNat_add]
      rfl
    rw [storedWords, hnext, ih]
    rfl

theorem wordsReach_of_wordsFrom {s : State} {p : Byte} {a : Word} {vs : List Word}
    (h : ∀ w ∈ wordsFrom a vs, s.reaches (.abs p) w.1) : wordsReach s.plat p a vs.length := by
  refine wordsReach_of_lt fun k hk => ?_
  have hmem : (a + BitVec.ofNat 16 k, vs[k]) ∈ wordsFrom a vs :=
    List.mem_map.mpr ⟨(vs[k], k), List.mk_mem_zipIdx_iff_getElem?.mpr (List.getElem?_eq_getElem hk), rfl⟩
  exact h _ hmem

/-! ### The words of a process save (R94, R318) -/

/-- The words that a process save stores: 0 to 13, -2 and, where the level counter is 0, -1. -/
def State.savedWords (s : State) (a cont : Word) : List (Word × Word) :=
  wordsFrom a (s.descriptor cont) ++ ((a - 2, s.level) :: if s.level.toNat % 32768 = 0 then [(a - 1, s.bound)] else [])

theorem processSaved_eq (s : State) (p : Byte) (a cont : Word) :
    s.processSaved p a cont = { s with mem := writtenWords p (s.savedWords a cont) s.mem } := by
  have hmem : (s.processSaved p a cont).mem = writtenWords p (s.savedWords a cont) s.mem := by
    have hstored := storedWords_mem s p a (s.descriptor cont) 0
    rw [show a + BitVec.ofNat 16 0 = a by simp] at hstored
    rw [State.savedWords, writtenWords_append, wordsFrom, ← hstored, State.processSaved]
    simp only [counterZero_iff]
    split
    · rfl
    · rfl
  rw [← hmem]
  exact congrArg (fun u : State => { u with mem := (s.processSaved p a cont).mem }) (processSaved_rest s p a cont)

theorem saveReaches_of {s : State} {p : Byte} {a cont : Word} (h : ∀ w ∈ s.savedWords a cont, s.reaches (.abs p) w.1) :
    s.saveReaches p a := by
  obtain ⟨hwords, hrest⟩ := List.forall_mem_append.mp h
  obtain ⟨hlevel, hbound⟩ := List.forall_mem_cons.mp hrest
  refine ⟨wordsReach_of_wordsFrom hwords, hlevel, fun hcounter => ?_⟩
  rw [if_pos ((counterZero_iff _).mp hcounter)] at hbound
  exact hbound _ (List.mem_singleton.mpr rfl)

/-- The words of a context, with words 16 and 17 of NMI, stand at different addresses. -/
theorem savedWords_nodup (s : State) (a cont v w : Word) :
    ((s.savedWords a cont ++ [(a + 16, v), (a + 17, w)]).map Prod.fst).Nodup := by
  have hinj : Function.Injective (fun e : Word => a + e) := add_right_injective a
  have hsub (e : Word) : a - e = a + -e := BitVec.sub_eq_add_neg ..
  rw [State.savedWords, hsub, hsub]
  split
  · exact List.Nodup.map (f := fun e : Word => a + e) (l := [0, 1, 2, 3, 4, 5, 6, 7, 8, 9, 10, 11, 12, 13, -2, -1, 16, 17]) hinj (by decide)
  · exact List.Nodup.map (f := fun e : Word => a + e) (l := [0, 1, 2, 3, 4, 5, 6, 7, 8, 9, 10, 11, 12, 13, -2, 16, 17]) hinj (by decide)

/-- Settles O42: the stores of the process save, then the mask (R318). -/
theorem saveProcessWritesTheDescriptor : Obligations.SaveProcessWritesTheDescriptor := by
  intro s c at' ws hr
  have hws : ws = s.savedWords s.base (s.pc + 1 + zext c) := rfl
  rw [hws] at hr ⊢
  have hrun := (saveOwnProcess_ok c s _).mpr ⟨saveReaches_of hr, rfl⟩
  have hnodup := savedWords_nodup s s.base (s.pc + 1 + zext c) 0 0
  rw [List.map_append] at hnodup
  rw [processSaved_eq] at hrun
  exact answers_of rfl hrun
    ⟨wordsSet_of_mem (List.Nodup.of_append_left hnodup) rfl, fun _ => rfl, pswChanged_setMask s 3, rfl, rfl, rfl, rfl⟩

/-- Settles O48: the stores of the process save and words 16 and 17, through the reference of the CPU (R330). -/
theorem nonMaskableInterruptSavesTheContext : Obligations.NonMaskableInterruptSavesTheContext := by
  intro s r d p at' ws href href' hr
  have hperm : (s.savedWords d (s.pc + 1) ++ [(d + 16, zext s.spm), (d + 17, 8)]).Perm ws := by
    rw [State.savedWords, List.append_assoc]
    exact List.perm_append_comm.append_left _
  have hreach (w : Word × Word) (hw : w ∈ s.savedWords d (s.pc + 1) ++ [(d + 16, zext s.spm), (d + 17, 8)]) : s.reaches (.abs p) w.1 :=
    hr w (hperm.mem_iff.mp hw)
  obtain ⟨hsaved, hlast⟩ := List.forall_mem_append.mp hreach
  obtain ⟨h16, h17, -⟩ := List.forall_mem_cons.mp hlast |>.imp_right List.forall_mem_cons.mp
  have hrun := (nonMaskable_ok s _).mpr ⟨href, href', saveReaches_of (s := (s.emit .issueNmi).clearModification) (cont := s.pc + 1) hsaved,
    h16, h17, rfl⟩
  rw [processSaved_eq] at hrun
  refine answers_of rfl hrun ⟨(wordsSet_of_mem (savedWords_nodup ..) ?_).perm hperm, fun _ => rfl, ⟨rfl, rfl⟩, rfl, rfl, rfl, rfl⟩
  rw [writtenWords_append]
  rfl

/-! ### Execute -/

/-- The word waits, and the next step runs it in the standard set (R324, R326). -/
theorem runs_of_execute {x : Instr} {s : State} {r : Run State} {w : Word} (he : exec x s = outcome r) (h : r = .ok (s.execute w)) :
    Answers x s fun t => SameAs { s with instr := some w } t ∧ EndsAt t s.pc ∧
      ∀ i, s.awaitingNmi = false → decodeFor s.plat.cpu false w = some i → step t = exec i { t with instr := none } := by
  refine answers_of he h ⟨⟨fun _ => rfl, fun _ => rfl, ⟨rfl, rfl⟩, rfl⟩, ⟨rfl, rfl, rfl⟩, fun i hnmi hdecode => ?_⟩
  exact (stepRunsTheDecodedInstruction (s.execute w) i hnmi).2 w rfl hdecode

/-- Settles O44: XCU takes the word at X3, XCUI the word that its operand points at. -/
theorem executeRunsTheWordInPlace : Obligations.ExecuteRunsTheWordInPlace := by
  intro s r
  exact ⟨fun hr => runs_of_execute rfl ((executeAt_ok _ _ _).mpr ⟨hr, rfl⟩),
    fun hr hr' => runs_of_execute rfl ((executeIndirect_ok _ _ _).mpr ⟨hr, hr', rfl⟩)⟩

/-! ### Monitor call and return -/

/-- The program page after a monitor call is that of PG = 0 and the new LEVEL (R83, R325). -/
theorem enterMonitor_progCur (s : State) : s.enterMonitor.progCur = progPage s.plat false (s.level + 1) s.umap s.spm := by
  have hpg : s.enterMonitor.pg = false := getLsbD_insertBit_same _ _ _ (by decide)
  rw [State.progCur, hpg]
  rfl

theorem answers_of_monitorCall {k : BitVec 8} {s : State} {a : Word} (h : monitorCall k s = .ok (s.enterMonitor.jumpTo a)) :
    Answers (.mon k) s fun t =>
      PlaceSet s t (.reg 7) (s.pc + 1 - s.prog) ∧ PswChanged s t [(0, false)] ∧
        SpecialsKept { s with level := s.level + 1, bound := 0xFFFF } t ∧ EndsAt t a :=
  answers_of rfl h ⟨placeSet_putAt s (.reg 7) s.link, pswChanged_of_insertBit (by decide) rfl rfl, rfl, rfl, rfl, rfl⟩

/-- The constant of MON as a number (R325). -/
theorem monitorCode_lt (k : BitVec 8) : zext k < (64 : Word) ↔ k.toNat < 64 := by
  rw [BitVec.lt_def, zext, BitVec.toNat_setWidth_of_le (by decide)]
  rfl

/-- Settles O45: through location 63, or through the page that the new LEVEL and PSW give (R325). -/
theorem monitorCallEntersTheMonitor : Obligations.MonitorCallEntersTheMonitor := by
  intro s k
  refine ⟨fun hk => answers_of_monitorCall ?direct, fun hk hr => answers_of_monitorCall ?indirect⟩
  case direct =>
    rw [monitorCall_ok, if_pos ((monitorCode_lt k).mpr hk)]
  case indirect =>
    rw [monitorCall_ok, if_neg fun h => absurd ((monitorCode_lt k).mp h) (by omega), enterMonitor_progCur]
    exact ⟨hr, rfl⟩

/-- Everything that a return from a monitor call leaves, but for the PSW (R327). -/
theorem monitorLeft_eq (s : State) :
    s.monitorLeft = { s with
      level := s.level - 1
      psw := if s.level - 1 = 0 then insertBits s.psw 0 (BitVec.ofBool true) else s.psw
      bound := if (s.level - 1).toNat % 32768 = 0 then s.data (s.base - 1) else s.bound } := by
  simp only [State.monitorLeft, counterZero_iff]
  split
  · split
    · rfl
    · rfl
  · split
    · rfl
    · rfl

/-- The return of RTM and RTMI, to any location (R327, R328). -/
theorem answers_of_monitorReturn {i : Instr} {s : State} {r : Run State} {a b : Word} (he : exec i s = outcome r)
    (h : r = .ok (s.monitorLeft.jumpTo b)) (hb : b = a) :
    Answers i s fun t =>
      RegsKept s t ∧ MemKept s t ∧ PswChanged s t (if s.level - 1 = 0 then [(0, true)] else []) ∧
        SpecialsKept { s with
          level := s.level - 1
          bound := if (s.level - 1).toNat % 32768 = 0 then s.data (s.base - 1) else s.bound } t ∧ EndsAt t a := by
  subst hb
  rw [monitorLeft_eq] at h
  refine answers_of he h ⟨fun _ => rfl, fun _ => rfl, ?_, rfl, rfl, rfl, rfl⟩
  split
  · exact pswChanged_of_insertBit (by decide) rfl rfl
  · exact ⟨by simp, fun _ _ => rfl, rfl⟩

/-- Settles O46: RTM to its operand (R327), RTMI through it (R328). -/
theorem monitorReturnLeavesTheMonitor : Obligations.MonitorReturnLeavesTheMonitor := by
  intro s level hbound
  have hbound' (h : counterZero (s.level - 1) = true) : s.dataReaches (s.base - 1) := hbound ((counterZero_iff _).mp h)
  refine ⟨fun x d => ?direct, fun d hr => ?indirect⟩
  case direct => exact answers_of_monitorReturn rfl ((returnMonitor_ok _ _ _).mpr ⟨hbound', rfl⟩) (progAddress_indexed_prog_last s x d)
  case indirect => exact answers_of_monitorReturn rfl ((returnMonitorIndirect_ok _ _ _).mpr ⟨hr, hbound', rfl⟩) rfl

/-! ### CPU -/

theorem becomes_of_notify {i : Instr} {s : State} {o : Operand} {l : Loc} {v : Word} (he : exec i s = outcome (notify o s))
    (h : o.Designates s l v) : Becomes i s { s with trace := .notifyVector v :: s.trace } := by
  obtain ⟨rfl, hr, rfl⟩ := h
  exact becomes_of he ((notify_ok _ _ _).mpr ⟨hr, rfl⟩) rfl

/-- Settles O47: the vector from a register and from the word at M B0.X3. -/
theorem cpuInterruptNotifiesAVector : Obligations.CpuInterruptNotifiesAVector := fun s r =>
  ⟨becomes_of_notify rfl (designates_reg s r), fun hr => becomes_of_notify rfl (designates_b0x3 hr)⟩

/-! ### Cache, test, and the switch of the set -/

theorem setCache_eq (s : State) (b : Bool) : s.setCache b = { s with cacheOn := if s.plat.cpu = .type8 then s.cacheOn else b } := by
  unfold State.setCache
  split
  · rfl
  · rfl

/-- TST leaves registers 4 to 7 (R334). -/
theorem selfTest_reg (s : State) {q : RegNum} (hq : 4 ≤ q) : s.selfTest.reg q = s.reg q := by
  have hne : q ≠ 0#3 ∧ q ≠ 1#3 ∧ q ≠ 2#3 ∧ q ≠ 3#3 := by
    revert q
    decide
  obtain ⟨h0, h1, h2, h3⟩ := hne
  show (((s.setReg 0 _).setReg 1 _).setReg 2 _ |>.setReg 3 _).reg q = s.reg q
  simp [h0, h1, h2, h3]

theorem selfTest_code (s : State) : s.selfTest.reg 0 = testCode s.plat.tstResult := by
  show (((s.setReg 0 _).setReg 1 _).setReg 2 _ |>.setReg 3 _).reg 0 = _
  simp

/-- ALT sets PSW bit 12 and goes on; what it does with the modification depends on the CPU type (R335). -/
theorem switchSet_eq (s : State) :
    s.switchSet = if s.plat.cpu = .type6 then ((s.setAlt true).clearModification).advance 1 else (s.setAlt true).advance 1 := by
  unfold State.switchSet
  split
  · rfl
  · rfl

/-- Settles O50. -/
theorem cacheTestAndAlternativeSwitch : Obligations.CacheTestAndAlternativeSwitch := by
  intro s
  refine ⟨?enable, ?disable, ?test, ?switch⟩
  case enable =>
    rw [← setCache_eq]
    exact becomes_of (r := .ok (s.setCache true).finish) rfl rfl (by rw [setCache_eq])
  case disable =>
    rw [← setCache_eq]
    exact becomes_of (r := .ok (s.setCache false).finish) rfl rfl (by rw [setCache_eq])
  case test =>
    exact ⟨s.selfTest.finish, rfl, selfTest_code s, fun q hq => selfTest_reg s hq, fun _ => rfl,
      fun n hn => getLsbD_insertBits_outside _ _ _ _ (by omega), rfl, rfl, rfl, rfl⟩
  case switch =>
    refine ⟨s.switchSet, rfl, ?_⟩
    have hpsw (t : State) (ht : t.psw = (s.setAlt true).psw) (hfree : t.freeCtr = s.freeCtr) : PswChanged s t [(12, true)] :=
      pswChanged_of_insertBit (by decide) ht hfree
    rw [switchSet_eq]
    split
    · next hcpu => exact ⟨fun _ => rfl, fun _ => rfl, hpsw _ rfl rfl, rfl, rfl, fun _ => ⟨rfl, rfl⟩, fun hne => absurd hcpu hne⟩
    · next hcpu => exact ⟨fun _ => rfl, fun _ => rfl, hpsw _ rfl rfl, rfl, rfl, fun h => absurd h hcpu, fun _ => ⟨rfl, rfl⟩⟩

end Sys2Proof.Machine
end

section
/-! PROOF. MOVM, STC and UNS of 41_move.md (R187, R190, R191), and what several words moved one after the other leave in memory. -/

namespace Sys2Proof.Machine

/-! ### States that differ in registers and memory only -/

/-- Nothing but general registers and absolute memory differs. -/
def DataOnly (s t : State) : Prop := { t with x := s.x, mem := s.mem } = s

namespace DataOnly

variable {s t u : State}

theorem base (h : DataOnly s t) : t.base = s.base := (congrArg State.base h :)
theorem mod (h : DataOnly s t) : t.mod = s.mod := (congrArg State.mod h :)
theorem psw (h : DataOnly s t) : t.psw = s.psw := (congrArg State.psw h :)
theorem plat (h : DataOnly s t) : t.plat = s.plat := (congrArg State.plat h :)
theorem dataPage (h : DataOnly s t) : t.dataPage = s.dataPage := (congrArg State.dataPage h :)
theorem reaches (h : DataOnly s t) : t.reaches = s.reaches := (congrArg State.reaches h :)
theorem pswKept (h : DataOnly s t) : PswKept s t := ⟨h.psw, (congrArg State.freeCtr h :)⟩
theorem specialsKept (h : DataOnly s t) : SpecialsKept s t :=
  (congrArg (fun u : State => { u with pc := s.pc, mod := s.mod, modified := s.modified, psw := s.psw, freeCtr := s.freeCtr }) h :)

theorem refl (s : State) : DataOnly s s := rfl

theorem trans (h : DataOnly s t) (h' : DataOnly t u) : DataOnly s u :=
  (congrArg (fun v : State => { v with x := s.x, mem := s.mem }) h' :).trans h

theorem setReg (h : DataOnly s t) (r : RegNum) (v : Word) : DataOnly s (t.setReg r v) := h.trans rfl
theorem putWord (h : DataOnly s t) (p : Byte) (a v : Word) : DataOnly s (t.putWord p a v) := h.trans rfl

theorem iterate {unit : State → State} (hunit : ∀ u, DataOnly u (unit u)) (n : Nat) (s : State) : DataOnly s (unit^[n] s) := by
  induction n with
  | zero => exact refl s
  | succ n ih =>
    rw [Function.iterate_succ_apply']
    exact ih.trans (hunit _)

theorem finish (h : DataOnly s t) : PswKept s t.finish ∧ SpecialsKept s t.finish ∧ EndsAfter s t.finish 1 := by
  have hpc : t.pc = s.pc := (congrArg State.pc h :)
  exact ⟨h.pswKept, h.specialsKept, congrArg (· + 1) hpc, rfl, rfl⟩

end DataOnly

/-! ### Words and bytes copied one at a time -/

/-- A unit that copies a word, read at `src k` and written at `dst k` where it is done for the `k`-th time, copies as many words as it is
repeated (R187, R353). -/
theorem mem_iterate_copiedWords {unit : State → State} {src dst : Nat → Nat} {s : State} {n : Nat}
    (h : ∀ k < n, (unit (unit^[k] s)).mem = (unit^[k] s).mem.writeWord (dst k) ((unit^[k] s).mem.readWord (src k))) :
    (unit^[n] s).mem = copiedWords src dst n s.mem := by
  induction n with
  | zero => rfl
  | succ n ih =>
    rw [Function.iterate_succ_apply', h n n.lt_succ_self, ih fun k hk => h k (Nat.lt_succ_of_lt hk)]
    rfl

/-- The same for bytes. -/
theorem mem_iterate_copiedBytes {unit : State → State} {src dst : Nat → Nat} {s : State} {n : Nat}
    (h : ∀ k < n, (unit (unit^[k] s)).mem = (unit^[k] s).mem.writeByte (dst k) ((unit^[k] s).mem.readByte (src k))) :
    (unit^[n] s).mem = copiedBytes src dst n s.mem := by
  induction n with
  | zero => rfl
  | succ n ih =>
    rw [Function.iterate_succ_apply', h n n.lt_succ_self, ih fun k hk => h k (Nat.lt_succ_of_lt hk)]
    rfl

/-- Copying words changes no byte outside the words written. -/
theorem readByte_copiedWords_outside {src dst : Nat → Nat} {n b : Nat} (hb : b / 2 ∉ (List.range n).map dst) (m : Memory) :
    (copiedWords src dst n m).readByte b = m.readByte b := by
  induction n with
  | zero => rfl
  | succ n ih =>
    rw [List.range_succ, List.map_append, List.mem_append, not_or] at hb
    obtain ⟨hbefore, hlast⟩ := hb
    rw [copiedWords, readByte_writeWord_outside _ _ _ _ fun h => hlast (List.mem_singleton.mpr h), ih hbefore]

/-- Copying bytes changes no other byte. -/
theorem readByte_copiedBytes_outside {src dst : Nat → Nat} {n b : Nat} (hb : b ∉ (List.range n).map dst) (m : Memory) :
    (copiedBytes src dst n m).readByte b = m.readByte b := by
  induction n with
  | zero => rfl
  | succ n ih =>
    rw [List.range_succ, List.map_append, List.mem_append, not_or] at hb
    obtain ⟨hbefore, hlast⟩ := hb
    rw [copiedBytes, readByte_writeByte, if_neg fun h => hlast (List.mem_singleton.mpr h), ih hbefore]

/-! ### MOVM -/

/-- One word of MOVM (R187). -/
def wordStep (f1 f2 : RegNum) (s : State) : State :=
  let s1 := s.putWord s.dataPage (s.base + s.reg f2) (s.word s.dataPage (s.base + s.reg f1))
  let s2 := s1.setReg f1 (s1.reg f1 + 1)
  s2.setReg f2 (s2.reg f2 + 1)

section
variable (f1 f2 : RegNum)

theorem wordStep_dataOnly (s : State) : DataOnly s (wordStep f1 f2 s) := rfl

theorem wordStep_iterate_dataOnly (n : Nat) (s : State) : DataOnly s ((wordStep f1 f2)^[n] s) :=
  DataOnly.iterate (wordStep_dataOnly f1 f2) n s

/-- How far the pointers advance with each word: a register that is both advances twice. -/
def wordStride : Nat := if f1 = f2 then 2 else 1

theorem wordStep_reg (s : State) (q : RegNum) :
    (wordStep f1 f2 s).reg q = if q = f1 ∨ q = f2 then s.reg q + BitVec.ofNat 16 (wordStride f1 f2) else s.reg q := by
  simp only [wordStep, wordStride, State.setReg_reg, State.putWord_reg]
  by_cases h2 : q = f2
  · subst h2
    by_cases h1 : q = f1
    · subst h1
      simp [BitVec.add_assoc]
    · simp [h1, Ne.symm h1]
  · by_cases h1 : q = f1
    · subst h1
      simp [h2]
    · simp [h1, h2]

theorem wordStep_iterate_reg (n : Nat) (s : State) (q : RegNum) :
    ((wordStep f1 f2)^[n] s).reg q = if q = f1 ∨ q = f2 then s.reg q + BitVec.ofNat 16 (wordStride f1 f2 * n) else s.reg q := by
  induction n with
  | zero => simp
  | succ n ih =>
    rw [Function.iterate_succ_apply', wordStep_reg, ih, Nat.mul_succ, BitVec.ofNat_add, ← BitVec.add_assoc]
    split
    · rfl
    · rfl

/-- The address in a pointer after `n` words. -/
theorem wordStep_iterate_address (n : Nat) (s : State) {f : RegNum} (hf : f = f1 ∨ f = f2) :
    s.base + ((wordStep f1 f2)^[n] s).reg f = s.base + s.reg f + BitVec.ofNat 16 (wordStride f1 f2 * n) := by
  rw [wordStep_iterate_reg, if_pos hf, ← BitVec.add_assoc]

/-- Memory after `n` words of MOVM. -/
theorem wordStep_iterate_mem (n : Nat) (s : State) :
    ((wordStep f1 f2)^[n] s).mem =
      copiedWords (fun k => wordIndex s.dataPage (s.base + s.reg f1 + BitVec.ofNat 16 (wordStride f1 f2 * k)))
        (fun k => wordIndex s.dataPage (s.base + s.reg f2 + BitVec.ofNat 16 (wordStride f1 f2 * k))) n s.mem := by
  refine mem_iterate_copiedWords fun k _ => ?_
  have honly := wordStep_iterate_dataOnly f1 f2 k s
  rw [← wordStep_iterate_address f1 f2 k s (.inl rfl), ← wordStep_iterate_address f1 f2 k s (.inr rfl), ← honly.base, ← honly.dataPage]
  rfl

/-- MOVM answers where the transfers of each word go through (R187). -/
theorem moveWords_reached {n : Nat} {s : State}
    (h : ∀ k < n, s.dataReaches (s.base + ((wordStep f1 f2)^[k] s).reg f1) ∧ s.dataReaches (s.base + ((wordStep f1 f2)^[k] s).reg f2)) :
    moveWords f1 f2 n s = .ok ((wordStep f1 f2)^[n] s) := by
  induction n generalizing s with
  | zero => rfl
  | succ n ih =>
    obtain ⟨hsrc, hdst⟩ := h 0 n.succ_pos
    have hload := (loadData_ok s (s.base + s.reg f1) _).mpr ⟨hsrc, rfl⟩
    have hstore := (storeData_ok s (s.base + s.reg f2) (s.word s.dataPage (s.base + s.reg f1)) _).mpr ⟨hdst, rfl⟩
    rw [moveWords, hload, ok_bind, hstore, ok_bind]
    exact ih (s := wordStep f1 f2 s) fun k hk => h (k + 1) (Nat.succ_lt_succ hk)

end

/-- Settles O16: the words moved one at a time, then the end of the instruction (R187). -/
theorem moveMultipleMovesOneWordAtATime : Obligations.MoveMultipleMovesOneWordAtATime := by
  intro s f1 f2 n e src dst hr
  have hmoved : moveWords f1 f2 s.moveCount s = .ok ((wordStep f1 f2)^[n] s) := by
    refine moveWords_reached f1 f2 fun k hk => ?_
    rw [wordStep_iterate_address f1 f2 k s (.inl rfl), wordStep_iterate_address f1 f2 k s (.inr rfl)]
    exact hr k hk
  have hrun : moveMultiple f1 f2 s = .ok ((wordStep f1 f2)^[n] s).finish := by rw [moveMultiple, hmoved, ok_bind]; rfl
  have hmem := wordStep_iterate_mem f1 f2 n s
  refine answers_of rfl hrun ⟨hmem, fun b hb => ?_, wordStep_iterate_reg f1 f2 n s, (wordStep_iterate_dataOnly f1 f2 n s).finish⟩
  rw [State.finish_mem, hmem]
  exact readByte_copiedWords_outside hb _

/-! ### STC -/

/-- Registers 15-C4 down to 0, in the order in which they are stacked. -/
theorem regsUpTo_reverse_succ (n : Nat) : (regsUpTo (n + 1)).reverse = BitVec.ofNat 3 (n + 1) :: (regsUpTo n).reverse := by
  rw [regsUpTo, List.range_succ, List.map_append, List.reverse_append]
  rfl

/-- The words that stacking registers `n` down to 0 stores: register 7, where it is stacked, already decremented (R190). -/
def State.stackedWords (s : State) (n : Nat) : List (Word × Word) :=
  (List.range (n + 1)).reverse.map fun k =>
    (s.base + (s.reg 7 - BitVec.ofNat 16 (n + 1) + BitVec.ofNat 16 k) + s.mod, (s.setReg 7 (s.reg 7 - 1)).reg (BitVec.ofNat 3 k))

/-- The state after the first register is stacked. -/
def State.stackedOne (s : State) (r : RegNum) : State :=
  let s1 := s.setReg 7 (s.reg 7 - 1)
  s1.putWord s.dataPage (s.base + (s.reg 7 - 1) + s.mod) (s1.reg r)

theorem stackedOne_reg (s : State) (r q : RegNum) : (s.stackedOne r).reg q = if q = 7 then s.reg 7 - 1 else s.reg q := State.setReg_reg ..

theorem sub_one_sub (v : Word) (n : Nat) : v - 1 - BitVec.ofNat 16 n = v - BitVec.ofNat 16 (n + 1) := by
  rw [Nat.add_comm n 1, BitVec.ofNat_add]
  exact sub_sub v 1 _

/-- The words of register 15-C4 and of those below it. -/
theorem stackedWords_succ (s : State) {n : Nat} (hn : n + 1 ≤ 7) :
    s.stackedWords (n + 1) =
      (s.base + (s.reg 7 - 1) + s.mod, (s.setReg 7 (s.reg 7 - 1)).reg (BitVec.ofNat 3 (n + 1))) ::
        (s.stackedOne (BitVec.ofNat 3 (n + 1))).stackedWords n := by
  have htop : s.reg 7 - BitVec.ofNat 16 (n + 1 + 1) + BitVec.ofNat 16 (n + 1) = s.reg 7 - 1 := by
    rw [← sub_one_sub, BitVec.sub_add_cancel]
  rw [State.stackedWords, List.range_succ, List.reverse_append, List.reverse_singleton, List.singleton_append, List.map_cons, htop]
  refine congrArg _ (List.map_congr_left fun k hk => ?_)
  have hk : k < n + 1 := List.mem_range.mp (List.mem_reverse.mp hk)
  have hne : BitVec.ofNat 3 k ≠ 7 := fun h => by
    have := congrArg BitVec.toNat h
    rw [BitVec.toNat_ofNat, Nat.mod_eq_of_lt (by omega)] at this
    change k = 7 at this
    omega
  simp only [State.setReg_reg, if_neg hne, stackedOne_reg, if_true, sub_one_sub]
  rfl

theorem stackedWords_zero (s : State) : s.stackedWords 0 = [(s.base + (s.reg 7 - 1) + s.mod, s.reg 0)] := by
  simp [State.stackedWords]

theorem stackRegisters_cons {s : State} (r : RegNum) (rs : List RegNum) (hr : s.dataReaches (s.base + (s.reg 7 - 1) + s.mod)) :
    stackRegisters (r :: rs) s = stackRegisters rs (s.stackedOne r) := by
  have hstore := (storeData_ok (s.setReg 7 (s.reg 7 - 1)) (s.base + (s.reg 7 - 1) + s.mod) ((s.setReg 7 (s.reg 7 - 1)).reg r) _).mpr
    ⟨hr, rfl⟩
  simp only [stackRegisters, State.setReg_base, State.setReg_mod, State.setReg_reg, if_true] at hstore ⊢
  rw [hstore, ok_bind]
  simp only [State.stackedOne, State.setReg_reg, State.setReg_dataPage]

/-- Stacking registers `n` down to 0 stores these words and leaves register 7 at the lowest (R190). -/
theorem stackRegisters_reached {n : Nat} (hn : n ≤ 7) {s : State} (h : ∀ w ∈ s.stackedWords n, s.dataReaches w.1) :
    ∃ t, stackRegisters (regsUpTo n).reverse s = .ok t ∧ DataOnly s t ∧ RegSet s t 7 (s.reg 7 - BitVec.ofNat 16 (n + 1)) ∧
      t.mem = writtenWords s.dataPage (s.stackedWords n) s.mem := by
  induction n generalizing s with
  | zero =>
    rw [stackedWords_zero] at h ⊢
    exact ⟨s.stackedOne 0, stackRegisters_cons 0 [] (h _ (List.mem_singleton.mpr rfl)), rfl, stackedOne_reg s 0, by
      simp [writtenWords, State.stackedOne]⟩
  | succ n ih =>
    rw [stackedWords_succ s hn] at h ⊢
    obtain ⟨hfirst, hrest⟩ := List.forall_mem_cons.mp h
    obtain ⟨t, hrun, honly, hregs, hmem⟩ := ih (by omega) (s := s.stackedOne (BitVec.ofNat 3 (n + 1))) hrest
    have hone : DataOnly s (s.stackedOne (BitVec.ofNat 3 (n + 1))) := rfl
    refine ⟨t, ?_, hone.trans honly, fun q => ?_, hmem⟩
    · rw [regsUpTo_reverse_succ, stackRegisters_cons _ _ hfirst, hrun]
    · rw [hregs q, stackedOne_reg, stackedOne_reg, if_pos rfl, sub_one_sub]
      split
      · rfl
      · rfl

/-- The words stacked stand at different addresses. -/
theorem stackedWords_nodup (s : State) {n : Nat} (hn : n ≤ 7) : ((s.stackedWords n).map Prod.fst).Nodup := by
  rw [State.stackedWords, List.map_map]
  refine List.Nodup.map_on (fun j hj k hk h => ?_) (List.nodup_reverse.mpr List.nodup_range)
  have hj : j < n + 1 := List.mem_range.mp (List.mem_reverse.mp hj)
  have hk : k < n + 1 := List.mem_range.mp (List.mem_reverse.mp hk)
  have heq : BitVec.ofNat 16 j = BitVec.ofNat 16 k := by simpa using h
  have := congrArg BitVec.toNat heq
  simp only [BitVec.toNat_ofNat] at this
  omega

/-- STC of a value: the pointer first, then OP1, then the store (R190, D28). -/
theorem stacks_of_stackValue {i : Instr} {s : State} {o : Operand} {f2 : RegNum} {l : Loc} {v : Word}
    (he : exec i s = outcome (stackValue o f2 s)) (h : o.Designates (s.setReg f2 (s.reg f2 + 1)) l v)
    (hr : s.dataReaches (s.base + (s.reg f2 + 1) + s.mod)) :
    Answers i s fun t =>
      RegSet s t f2 (s.reg f2 + 1) ∧ WordSet s t s.dataPage (s.base + (s.reg f2 + 1) + s.mod) v ∧
        PswKept s t ∧ SpecialsKept s t ∧ EndsAfter s t 1 := by
  obtain ⟨rfl, hl, rfl⟩ := h
  exact answers_of he ((stackValue_ok _ _ _ _).mpr ⟨hl, hr, rfl⟩)
    ⟨State.setReg_reg s f2 (s.reg f2 + 1), wordSet_of_mem rfl, ⟨rfl, rfl⟩, rfl, rfl, rfl, rfl⟩

/-- C4 of at least 8 names a register that exists. -/
theorem count_of_eight_le {c : BitVec 4} (hc : 8 ≤ c) : ¬ c < 8 ∧ 15 - c.toNat ≤ 7 ∧ 16 - c.toNat = 15 - c.toNat + 1 := by
  have hle : 8 ≤ c.toNat := BitVec.le_def.mp hc
  exact ⟨BitVec.not_lt.mpr hc, by omega, by omega⟩

/-- Settles O18: OP1 of the value forms is evaluated after the increment; the registers are stacked as `stackedWords` lists them (R190). -/
theorem stackInstructionsStack : Obligations.StackInstructionsStack := by
  intro s
  refine ⟨?value, ?indirect, ?registers, ?refused⟩
  case value =>
    intro f1 f2 hr
    have hdes := designates_reg (s.setReg f2 (s.reg f2 + 1)) f1
    rw [State.setReg_reg] at hdes
    exact stacks_of_stackValue rfl hdes hr
  case indirect =>
    intro f1 f2 a ha hr
    have haddr : (s.setReg f2 (s.reg f2 + 1)).base + (s.setReg f2 (s.reg f2 + 1)).reg f1 = a := by rw [State.setReg_reg]; rfl
    have hdes := designates_x3 (s := s.setReg f2 (s.reg f2 + 1)) (r := f1) (by rw [haddr]; exact ha)
    rw [haddr] at hdes
    exact stacks_of_stackValue rfl hdes hr
  case registers =>
    intro c hc top a hr
    obtain ⟨hlt, hn, hcount⟩ := count_of_eight_le hc
    rw [hcount] at hr ⊢
    have hperm : (s.stackedWords (15 - c.toNat)).Perm ((List.range (15 - c.toNat + 1)).map fun k =>
        (a k, (s.setReg 7 (s.reg 7 - 1)).reg (BitVec.ofNat 3 k))) := by
      have htop : top = s.reg 7 - BitVec.ofNat 16 (15 - c.toNat + 1) := by rw [← hcount]
      simp only [State.stackedWords, a, htop]
      exact (List.reverse_perm _).map _
    obtain ⟨t, hrun, honly, hregs, hmem⟩ := stackRegisters_reached hn (s := s) fun w hw => by
      obtain ⟨k, hk, rfl⟩ := List.mem_map.mp (hperm.mem_iff.mp hw)
      exact hr k (List.mem_range.mp hk)
    obtain ⟨hset, hkept⟩ := (wordsSet_of_mem (t := t.finish) (stackedWords_nodup s hn) hmem).perm hperm
    have hexec : stackMany c s = .ok t.finish := by rw [stackMany, if_neg hlt, hrun, ok_bind]; rfl
    refine answers_of rfl hexec ⟨?_, fun r hr => ?_, ?_, honly.finish⟩
    · rw [← hcount] at hregs
      exact hregs
    · have hword := hset _ (List.mem_map.mpr ⟨r.toNat, List.mem_range.mpr hr, rfl⟩)
      rw [BitVec.ofNat_toNat, BitVec.setWidth_eq, State.setReg_reg] at hword
      rw [State.data, State.finish_dataPage, honly.dataPage, hword]
    · rwa [List.map_map] at hkept
  case refused =>
    intro c hc
    show outcome (stackMany c s) = _
    rw [stackMany, if_pos hc]
    rfl

/-! ### UNS -/

theorem regsUpTo_getElem {n k : Nat} (hk : k < (regsUpTo n).length) : (regsUpTo n)[k] = BitVec.ofNat 3 k := by
  simp [regsUpTo]

theorem regsUpTo_length (n : Nat) : (regsUpTo n).length = n + 1 := by simp [regsUpTo]

theorem regsUpTo_nodup {n : Nat} (hn : n ≤ 7) : (regsUpTo n).Nodup := by
  refine List.Nodup.map_on (fun j hj k hk h => ?_) List.nodup_range
  have hj := List.mem_range.mp hj
  have hk := List.mem_range.mp hk
  have := congrArg BitVec.toNat h
  simp only [BitVec.toNat_ofNat] at this
  omega

theorem mem_regsUpTo {n : Nat} {r : RegNum} (h : r ∈ regsUpTo n) (hn : n ≤ 7) : r.toNat < n + 1 := by
  obtain ⟨k, hk, rfl⟩ := List.mem_map.mp h
  have hk := List.mem_range.mp hk
  rw [BitVec.toNat_ofNat]
  omega

/-- Registers 0 to `n` loaded from ascending addresses; the others keep their values. -/
theorem loadedRegisters_upTo {n : Nat} (hn : n ≤ 7) (s : State) (p : Byte) (a : Word) (r : RegNum) :
    (loadedRegisters s p a (regsUpTo n)).reg r = if r.toNat < n + 1 then s.word p (a + BitVec.ofNat 16 r.toNat) else s.reg r := by
  split
  · next hr =>
    have hlen : r.toNat < (regsUpTo n).length := by rwa [regsUpTo_length]
    have h := loadedRegisters_getElem (regsUpTo_nodup hn) s p a hlen
    rwa [regsUpTo_getElem, BitVec.ofNat_toNat, BitVec.setWidth_eq] at h
  · next hr => exact loadedRegisters_reg_of_not_mem (fun h => hr (mem_regsUpTo h hn)) s p a

/-- Settles O19: the value forms decrement last; the register form loads what stands above the pointer (R191). -/
theorem unstackInstructionsUnstack : Obligations.UnstackInstructionsUnstack := by
  intro s
  refine ⟨?value, ?indirect, ?registers, ?refused⟩
  case value =>
    intro f1 f2 v hr
    refine answers_of rfl ((unstackValue_ok (.reg f1) f2 s _).mpr ⟨hr, trivial, rfl⟩)
      ⟨fun q => ?_, fun _ => rfl, ⟨rfl, rfl⟩, rfl, rfl, rfl, rfl⟩
    show (((s.setReg f1 v).setReg f2 ((s.setReg f1 v).reg f2 - 1)).reg q) = _
    simp only [State.setReg_reg, eq_comm (a := f2)]
  case indirect =>
    intro f1 f2 hr hr'
    obtain ⟨hloc, hreach, -⟩ := designates_x3 hr'
    have hrun := (unstackValue_ok (.x3 f1) f2 s _).mpr ⟨hr, by rw [hloc]; exact hreach, rfl⟩
    rw [hloc] at hrun
    exact answers_of rfl hrun ⟨State.setReg_reg _ _ _, wordSet_of_mem rfl, ⟨rfl, rfl⟩, rfl, rfl, rfl, rfl⟩
  case registers =>
    intro c hc a advance hr
    obtain ⟨hlt, hn, hcount⟩ := count_of_eight_le hc
    rw [hcount] at hr ⊢
    have hreach : wordsReach s.plat s.dataPage (s.base + s.reg 7 + s.mod) (regsUpTo (15 - c.toNat)).length := by
      rw [regsUpTo_length]
      exact wordsReach_of_lt hr
    have hadvance : s.unstackAdvance (15 - c.toNat) = BitVec.ofNat 16 advance := by
      simp only [State.unstackAdvance, advance]
      cases s.plat.unsAdvance with
      | cnt => rfl
      | cntPlusOne => exact congrArg (BitVec.ofNat 16) hcount.symm
    have hrun := (unstackMany_ok c s _).mpr ⟨hlt, hreach, rfl⟩
    rw [hadvance, loadedRegisters_eq] at hrun
    refine answers_of rfl hrun ⟨fun r => ?_, fun _ => rfl, ⟨rfl, rfl⟩, rfl, rfl, rfl, rfl⟩
    have hreg := loadedRegisters_upTo hn (s.setReg 7 (s.reg 7 + BitVec.ofNat 16 advance)) s.dataPage (s.base + s.reg 7 + s.mod) r
    rwa [State.setReg_reg] at hreg
  case refused =>
    intro c hc
    show outcome (unstackMany c s) = _
    rw [unstackMany, if_pos hc]
    rfl

end Sys2Proof.Machine
end

section
/-! PROOF. The alternative instructions but for the block moves: AMOW and AMOB (R361, R362), ARESS and ARELS (R363, R364), DRD and DWR (R365, R366),
the maps (R367 to R370), ARSC and ARED (R371, R372). -/

namespace Sys2Proof.Machine

/-! ### How an alternative instruction ends -/

theorem altEnds_altReturn {s u : State} {n k : Word} (hpsw : u.psw = s.psw) (hfree : u.freeCtr = s.freeCtr) (hpc : u.pc + n = s.pc + k) :
    AltEnds s (u.altReturn n) k :=
  ⟨pswChanged_of_insertBit (by decide) (by rw [State.altReturn_psw, hpsw]) hfree, hpc, rfl, rfl⟩

/-- A value at a place and the end of an alternative instruction (R350). -/
theorem altReturn_putAt (s : State) (l : Loc) (v n : Word) :
    PlaceSet s ((s.putAt l v).altReturn n) l v ∧ SpecialsKept s ((s.putAt l v).altReturn n) ∧ AltEnds s ((s.putAt l v).altReturn n) n := by
  have hset := placeSet_putAt s l v
  cases l with
  | reg r => exact ⟨hset, rfl, altEnds_altReturn rfl rfl rfl⟩
  | data a => exact ⟨hset, rfl, altEnds_altReturn rfl rfl rfl⟩

/-- The cache enable after both cache statements, which test the same PSW: on CPU type 7 enabled where bit 13 is 1 (R361 to R364). -/
def State.cacheEnded (s : State) : State := { s with cacheOn := s.cacheOn || (decide (s.plat.cpu = .type7) && s.psw.getLsbD 13) }

/-- The second cache statement, where what comes between the two leaves the PSW and the cache enable alone. -/
theorem altEnd_eq {s u : State} (hplat : u.plat = s.plat) (hpsw : u.psw = s.psw) (hcache : u.cacheOn = (s.bracketCache false).cacheOn) :
    u.altEnd = ({ u with cacheOn := s.cacheEnded.cacheOn } : State).altReturn 2 := by
  have hended : (u.bracketCache true).cacheOn = s.cacheEnded.cacheOn := by
    rw [cacheOn_between_brackets hplat hcache, loadedCache, hpsw, State.cacheEnded]
    by_cases hcpu : s.plat.cpu = .type7
    · cases s.cacheOn <;> cases s.psw.getLsbD 13 <;> simp [hcpu]
    · simp [hcpu]
  rw [State.altEnd, bracketCache_eq, hended]

/-! ### AMOW and AMOB -/

section
variable {s : State} {f1 f2 : RegNum}

theorem absLoadWord_eq (h : s.reaches (.abs (s.pairPage f1)) (s.reg f1)) :
    absLoadWord f1 f2 s = .ok ((s.cacheEnded.setReg f2 (s.word (s.pairPage f1) (s.reg f1))).altReturn 2) := by
  rw [absLoadWord_reached f1 f2 s h, bracketCache_eq, altEnd_eq (s := s)]
  all_goals rfl

theorem absStoreWord_eq (h : s.reaches (.abs (s.pairPage f1)) (s.reg f1)) :
    absStoreWord f1 f2 s = .ok ((s.cacheEnded.putWord (s.pairPage f1) (s.reg f1) (s.reg f2)).altReturn 2) := by
  rw [absStoreWord_reached f1 f2 s h, bracketCache_eq, altEnd_eq (s := s)]
  all_goals rfl

theorem absLoadByte_eq (h : s.reaches (.abs (s.pairPage f1)) (byteWord (s.absByteAddress f1))) :
    absLoadByte f1 f2 s = .ok ((s.cacheEnded.setReg f2 (zext (s.byteAt (s.pairPage f1) (s.absByteAddress f1)))).altReturn 2) := by
  rw [absLoadByte_reached f1 f2 s h, bracketCache_eq, altEnd_eq (s := s)]
  all_goals rfl

theorem absStoreByte_eq (h : s.reaches (.abs (s.pairPage f1)) (byteWord (s.absByteAddress f1))) :
    absStoreByte f1 f2 s = .ok ((s.cacheEnded.putByte (s.pairPage f1) (s.absByteAddress f1) (lowByte (s.reg f2))).altReturn 2) := by
  rw [absStoreByte_reached f1 f2 s h, bracketCache_eq, altEnd_eq (s := s)]
  all_goals rfl

end

/-- Settles O54: the two cache statements around one transfer (R361, R362). -/
theorem absoluteMovesMoveOneWordOrByte : Obligations.AbsoluteMovesMoveOneWordOrByte := by
  intro s f1 f2 p a ba ends
  refine ⟨fun hr => ⟨?loadWord, ?storeWord⟩, fun hr => ⟨?loadByte, ?storeByte⟩⟩
  case loadWord => exact answers_of rfl (absLoadWord_eq hr) (altReturn_putAt s.cacheEnded (.reg f2) _ 2)
  case storeWord =>
    exact answers_of rfl (absStoreWord_eq hr) ⟨fun _ => rfl, wordSet_of_mem rfl, rfl, altEnds_altReturn rfl rfl rfl⟩
  case loadByte => exact answers_of rfl (absLoadByte_eq hr) (altReturn_putAt s.cacheEnded (.reg f2) _ 2)
  case storeByte =>
    exact answers_of rfl (absStoreByte_eq hr) ⟨fun _ => rfl, byteSet_of_mem rfl, rfl, altEnds_altReturn rfl rfl rfl⟩

/-! ### ARESS and ARELS -/

section
variable {s : State} {f1 : RegNum} {c : BitVec 4}

theorem absReserve_of_bit_set (h : s.reaches (.abs (s.pairPage f1)) (s.reg f1))
    (hbit : (s.word (s.pairPage f1) (s.reg f1)).getLsbD c.toNat = true) :
    absReserve f1 c s = .ok (({ s.cacheEnded with semBlock := false } : State).altReturn 2) := by
  rw [absReserve_reached f1 c s h, if_pos hbit, bracketCache_eq, altEnd_eq (s := s)]
  all_goals rfl

theorem absReserve_of_bit_clear (h : s.reaches (.abs (s.pairPage f1)) (s.reg f1))
    (hbit : (s.word (s.pairPage f1) (s.reg f1)).getLsbD c.toNat = false) :
    absReserve f1 c s =
      .ok (({ (s.cacheEnded.putWord (s.pairPage f1) (s.reg f1) (setBit (s.word (s.pairPage f1) (s.reg f1)) c.toNat)).advance 1 with
        semBlock := false } : State).altReturn 2) := by
  rw [absReserve_reached f1 c s h, if_neg (Bool.eq_false_iff.mp hbit), bracketCache_eq, altEnd_eq (s := s)]
  all_goals rfl

theorem absRelease_eq (h : s.reaches (.abs (s.pairPage f1)) (s.reg f1)) :
    absRelease f1 c s =
      .ok (({ s.cacheEnded.putWord (s.pairPage f1) (s.reg f1) (clearBit (s.word (s.pairPage f1) (s.reg f1)) c.toNat) with
        semBlock := false } : State).altReturn 2) := by
  rw [absRelease_reached f1 c s h, bracketCache_eq, altEnd_eq (s := s)]
  all_goals rfl

end

/-- Settles O55: ARESS by the bit that it finds (R363), and ARELS (R364). -/
theorem absoluteReserveAndRelease : Obligations.AbsoluteReserveAndRelease := by
  intro s f1 c p a ends hr
  refine ⟨fun hbit => ?busy, fun hbit => ?reserved, ?released⟩
  case busy =>
    exact answers_of rfl (absReserve_of_bit_set hr hbit) ⟨fun _ => rfl, fun _ => rfl, altEnds_altReturn rfl rfl rfl, rfl⟩
  case reserved =>
    have hexit : s.pc + 1 + 2 = s.pc + 3 := BitVec.add_assoc ..
    exact answers_of rfl (absReserve_of_bit_clear hr hbit)
      ⟨⟨_, bitChanged_setBit _ _, wordSet_of_mem rfl⟩, fun _ => rfl, altEnds_altReturn rfl rfl hexit, rfl⟩
  case released =>
    exact answers_of rfl (absRelease_eq hr)
      ⟨⟨_, bitChanged_clearBit _ _, wordSet_of_mem rfl⟩, fun _ => rfl, altEnds_altReturn rfl rfl rfl, rfl⟩

/-! ### Devices and the maps -/

section
variable {i : Instr} {s : State} {o : Operand} {f : RegNum} {l : Loc} {v w : Word}

/-- DRD (R365). -/
theorem answers_of_deviceRead (he : exec i s = outcome (deviceRead o f s)) (ha : s.deviceAnswers .drd (s.device f) v)
    (h : o.Designates s l w) :
    Answers i s fun t =>
      PlaceSet s t l v ∧ SpecialsKept (s.transferred .drd (s.device f) (.ioIn .drd (s.device f) v)) t ∧ AltEnds s t 2 := by
  obtain ⟨rfl, hl, rfl⟩ := h
  obtain ⟨hset, hends⟩ := altReturn_putAt (s.transferred .drd (s.device f) (.ioIn .drd (s.device f) v)) (o.loc s) v 2
  refine answers_of he (deviceRead_reached _ _ _ _ ha hl) ⟨?_, hends⟩
  revert hset
  cases o.loc s with
  | reg r => exact id
  | data a => exact id

/-- DWR (R366). -/
theorem answers_of_deviceWrite (he : exec i s = outcome (deviceWrite o f s)) (ha : s.deviceAnswers .dwr (s.device f) v)
    (h : o.Designates s l w) :
    Answers i s fun t =>
      RegsKept s t ∧ MemKept s t ∧ SpecialsKept (s.transferred .dwr (s.device f) (.ioOut .dwr (s.device f) w)) t ∧ AltEnds s t 2 := by
  obtain ⟨rfl, hl, rfl⟩ := h
  exact answers_of he (deviceWrite_reached _ _ _ _ ha hl) ⟨fun _ => rfl, fun _ => rfl, rfl, altEnds_altReturn rfl rfl rfl⟩

/-- The whole effect of an alternative instruction that puts a value at a place and has no error exit (R350, D45). -/
def AltWrites (i : Instr) (s : State) (l : Loc) (v : Word) : Prop :=
  Answers i s fun t => PlaceSet s t l v ∧ SpecialsKept s t ∧ AltEnds s t 1

/-- MRD where the CPU has it (R367). -/
theorem altWrites_of_mapRead (he : exec i s = outcome (mapRead o f s)) (hc : s.plat.cpu ≠ .type8) (hr : s.reaches .mapMem (s.device f))
    (h : o.Designates s l w) : AltWrites i s l (s.mapMem.readWord (s.device f).toNat) := by
  obtain ⟨rfl, hl, rfl⟩ := h
  exact answers_of he ((mapRead_ok _ _ _ _ hc).mpr ⟨hr, hl, rfl⟩) (altReturn_putAt ..)

/-- MWR where the CPU has it (R368). -/
theorem answers_of_mapWrite (he : exec i s = outcome (mapWrite o f s)) (hc : s.plat.cpu ≠ .type8) (hr : s.reaches .mapMem (s.device f))
    (h : o.Designates s l w) :
    Answers i s fun t =>
      RegsKept s t ∧ MemKept s t ∧ SpecialsKept { s with mapMem := t.mapMem } t ∧ AltEnds s t 1 ∧
        t.mapMem.readWord (s.device f).toNat = w ∧
          ∀ b, b / 2 ≠ (s.device f).toNat → t.mapMem.readByte b = s.mapMem.readByte b := by
  obtain ⟨rfl, hl, rfl⟩ := h
  exact answers_of he ((mapWrite_ok _ _ _ _ hc).mpr ⟨hl, hr, rfl⟩)
    ⟨fun _ => rfl, fun _ => rfl, rfl, altEnds_altReturn rfl rfl rfl, readWord_writeWord_same ..,
      fun b hb => readByte_writeWord_outside _ _ _ b hb⟩

/-- RSP (R369). -/
theorem altWrites_of_readSystemMap (he : exec i s = outcome (readSystemMap o s)) (h : o.Designates s l w) :
    AltWrites i s l (zext s.spm) := by
  obtain ⟨rfl, hl, rfl⟩ := h
  exact answers_of he ((readSystemMap_ok _ _ _).mpr ⟨hl, rfl⟩) (altReturn_putAt ..)

/-- WSP (R370). -/
theorem answers_of_writeSystemMap (he : exec i s = outcome (writeSystemMap o s)) (h : o.Designates s l w) :
    Answers i s fun t => RegsKept s t ∧ MemKept s t ∧ SpecialsKept { s with spm := lowByte w } t ∧ AltEnds s t 1 := by
  obtain ⟨rfl, hl, rfl⟩ := h
  exact answers_of he ((writeSystemMap_ok _ _ _).mpr ⟨hl, rfl⟩) ⟨fun _ => rfl, fun _ => rfl, rfl, altEnds_altReturn rfl rfl rfl⟩

/-- MRD on type 8 is an illegal instruction (R381). -/
theorem mapRead_type8 (he : exec i s = outcome (mapRead o f s)) (hc : s.plat.cpu = .type8) :
    exec i s = .fault (.internalInterrupt 1 s) := by
  rw [he, mapRead, if_pos hc]
  rfl

/-- And so is MWR. -/
theorem mapWrite_type8 (he : exec i s = outcome (mapWrite o f s)) (hc : s.plat.cpu = .type8) :
    exec i s = .fault (.internalInterrupt 1 s) := by
  rw [he, mapWrite, if_pos hc]
  rfl

end

/-- Settles O56: DRD and DWR of a register and of the word at X3 (R365, R366). -/
theorem deviceReadAndDeviceWrite : Obligations.DeviceReadAndDeviceWrite := by
  intro s f1 f2 v dev a reads writes
  exact ⟨fun ha => ⟨answers_of_deviceRead rfl ha (designates_reg s f1), fun hr => answers_of_deviceRead rfl ha (designates_x3 hr)⟩,
    fun ha => ⟨answers_of_deviceWrite rfl ha (designates_reg s f1), fun hr => answers_of_deviceWrite rfl ha (designates_x3 hr)⟩⟩

/-- Settles O57: map memory by type (R367, R368, R381), and the system program map register (R369, R370). -/
theorem mapInstructionsReadAndWrite : Obligations.MapInstructionsReadAndWrite := by
  intro s f1 f2 m a reads maps sets
  have hreg := designates_reg s f1
  refine ⟨fun hcpu => ?illegal, fun hcpu hm => ⟨?_, ?_, fun hr => ⟨?_, ?_⟩⟩, ?_, ?_, fun hr => ⟨?_, ?_⟩⟩
  case illegal =>
    simp only [List.forall_mem_cons]
    exact ⟨mapRead_type8 rfl hcpu, mapRead_type8 rfl hcpu, mapWrite_type8 rfl hcpu, mapWrite_type8 rfl hcpu,
      fun _ h => absurd h List.not_mem_nil⟩
  · exact altWrites_of_mapRead rfl hcpu hm hreg
  · exact answers_of_mapWrite rfl hcpu hm hreg
  · exact altWrites_of_mapRead rfl hcpu hm (designates_x3 hr)
  · exact answers_of_mapWrite rfl hcpu hm (designates_x3 hr)
  · exact altWrites_of_readSystemMap rfl hreg
  · exact answers_of_writeSystemMap rfl hreg
  · exact altWrites_of_readSystemMap rfl (designates_x3 hr)
  · exact answers_of_writeSystemMap rfl (designates_x3 hr)

/-! ### Error correction -/

/-- A word written back as it was read changes no byte. -/
theorem readByte_writeWord_readWord (m : Memory) (i b : Nat) : (m.writeWord i (m.readWord i)).readByte b = m.readByte b := by
  rw [readByte_writeWord, Memory.readWord, highByte_wordOf, lowByte_wordOf]
  split
  · next h => rw [h]
  · split
    · next h => rw [h]
    · rfl

/-- Settles O58: ARSC writes back the word that it read (R371); ARED stops on a time-out only (R372). -/
theorem errorCorrectionInstructions : Obligations.ErrorCorrectionInstructions := by
  intro s f1 f2 p a
  refine ⟨fun hr => ?syndrome, fun hr => ?uncorrected⟩
  case syndrome =>
    refine answers_of rfl ((readSyndrome_ok f1 f2 s _).mpr ⟨hr, rfl⟩)
      ⟨fun q hq => ?_, fun b => readByte_writeWord_readWord .., rfl, altEnds_altReturn rfl rfl rfl⟩
    exact (State.setReg_reg ..).trans (if_neg hq)
  case uncorrected => exact answers_of rfl ((readUncorrected_ok f1 f2 s _).mpr ⟨hr, rfl⟩) (altReturn_putAt s (.reg f2) _ 1)

end Sys2Proof.Machine
end

section
/-! PROOF. The block moves of 49_alternative.md (R353, R355 to R360): the loop as its unit repeated, the state after `k` units, and the words or
bytes that are copied. -/

namespace Sys2Proof.Machine

/-! ### The loop -/

section
variable {unit : State → State} {c : RegNum}

/-- A block move repeats its unit until the count is 0 or `N` units are done. -/
theorem blockState_repeats (unit : State → State) (c : RegNum) (N : Nat) (s : State) :
    ∃ n ≤ N, (∀ m < n, (unit^[m] s).reg c ≠ 0) ∧
      if n = N then blockState unit c N s = unit^[n] s
      else (unit^[n] s).reg c = 0 ∧ blockState unit c N s = (unit^[n] s).altReturn 2 := by
  induction N generalizing s with
  | zero => exact ⟨0, le_rfl, fun m hm => absurd hm m.not_lt_zero, rfl⟩
  | succ N ih =>
    rw [blockState]
    by_cases h0 : s.reg c = 0
    · refine ⟨0, N.succ.zero_le, fun m hm => absurd hm m.not_lt_zero, ?_⟩
      rw [if_neg (by omega), if_pos h0]
      exact ⟨h0, rfl⟩
    · obtain ⟨n, hn, hcount, hstate⟩ := ih (unit s)
      refine ⟨n + 1, Nat.succ_le_succ hn, fun m hm => ?_, ?_⟩
      · cases m with
        | zero => exact h0
        | succ m => exact hcount m (Nat.lt_of_succ_lt_succ hm)
      · rw [if_neg h0]
        simpa only [Nat.add_right_cancel_iff, Function.iterate_succ_apply] using hstate

/-- A block move whose count is 0 for the first time after `n` units leaves by the second exit. -/
theorem blockState_of_count {n N : Nat} {s : State} (hN : n < N) (hbefore : ∀ m < n, (unit^[m] s).reg c ≠ 0)
    (hzero : (unit^[n] s).reg c = 0) : blockState unit c N s = (unit^[n] s).altReturn 2 := by
  obtain ⟨k, hk, hcount, hstate⟩ := blockState_repeats unit c N s
  have hkn : k = n := by
    rcases Nat.lt_trichotomy k n with hlt | heq | hgt
    · rw [if_neg (by omega)] at hstate
      exact absurd hstate.1 (hbefore k hlt)
    · exact heq
    · exact absurd hzero (hcount n hgt)
  subst hkn
  rw [if_neg hN.ne] at hstate
  exact hstate.2

end

section
variable {i : Instr} {s : State} {f1 f2 c : RegNum}

/-- The repetition of O53, for any unit that the block move runs on. -/
theorem repeats_of_blockState {unit : State → State} {r : Run State} (he : exec i s = outcome r)
    (h : r = .ok (blockState unit c blockFuel s)) :
    ∃ n ≤ 65536, (∀ m < n, (unit^[m] s).reg c ≠ 0) ∧
      if n = 65536 then exec i s = .next (unit^[n] s)
      else (unit^[n] s).reg c = 0 ∧ exec i s = .next ((unit^[n] s).altReturn 2) := by
  obtain ⟨n, hn, hcount, hstate⟩ := blockState_repeats unit c blockFuel s
  have hexec : exec i s = .next (blockState unit c blockFuel s) := by
    rw [he, h]
    rfl
  refine ⟨n, hn, hcount, ?_⟩
  rw [hexec]
  change if n = 65536 then _ else _ at hstate
  split at hstate
  · next hall => rw [if_pos hall, hstate]
  · next hless =>
    rw [if_neg hless, hstate.2]
    exact ⟨hstate.1, rfl⟩

end

/-- Settles O53. -/
theorem blockMovesRepeatTheirUnit : Obligations.BlockMovesRepeatTheirUnit := by
  intro s f1 f2 c repeats words bytes
  have hwords (i : Instr) (src dst : State → Byte × Word) (he : exec i s = outcome (blockWords src dst f1 f2 c s)) : words i src dst :=
    fun h => repeats_of_blockState he (blockWords_reached src dst f1 f2 c s h)
  have hbytes (i : Instr) (src dst : State → Byte × Nat) (he : exec i s = outcome (blockBytes src dst f1 f2 c s)) : bytes i src dst :=
    fun h => repeats_of_blockState he (blockBytes_reached src dst f1 f2 c s h)
  exact ⟨hwords _ _ _ rfl, hwords _ _ _ rfl, hwords _ _ _ rfl, hbytes _ _ _ rfl, hbytes _ _ _ rfl, hbytes _ _ _ rfl⟩

/-! ### A count in a register of its own -/

/-- The count register as a unit leaves it, where the unit changes it by `DECR` only. -/
def CountsDown (unit : State → State) (c : RegNum) (s : State) : Prop := ∀ k, (unit^[k] s).reg c = s.reg c - BitVec.ofNat 16 k

theorem countsDown_of {unit : State → State} {c : RegNum} (h : ∀ u, (unit u).reg c = u.reg c - 1) (s : State) : CountsDown unit c s := by
  intro k
  induction k with
  | zero => simp
  | succ k ih => rw [Function.iterate_succ_apply', h, ih, sub_sub, BitVec.ofNat_add]; rfl

theorem CountsDown.reg_ne_zero {unit : State → State} {c : RegNum} {s : State} (h : CountsDown unit c s) {m : Nat}
    (hm : m < (s.reg c).toNat) : (unit^[m] s).reg c ≠ 0 := by
  rw [h m]
  intro hzero
  have hnat : (s.reg c - BitVec.ofNat 16 m).toNat = 0 := by
    rw [hzero]
    rfl
  have hlt := (s.reg c).isLt
  rw [BitVec.toNat_sub, BitVec.toNat_ofNat] at hnat
  omega

theorem CountsDown.reg_eq_zero {unit : State → State} {c : RegNum} {s : State} (h : CountsDown unit c s) :
    (unit^[(s.reg c).toNat] s).reg c = 0 := by
  rw [h, BitVec.ofNat_toNat, BitVec.setWidth_eq, sub_self]

theorem CountsDown.blockState {unit : State → State} {c : RegNum} {s : State} (h : CountsDown unit c s) :
    blockState unit c blockFuel s = (unit^[(s.reg c).toNat] s).altReturn 2 :=
  blockState_of_count (s.reg c).isLt (fun _ => h.reg_ne_zero) h.reg_eq_zero

/-- The count lasts for as many units as it says. -/
theorem CountsDown.lt_of_lasts {unit : State → State} {c : RegNum} {s : State} (h : CountsDown unit c s) {m : Nat}
    (hm : CountLasts unit c s m) : m < (s.reg c).toNat := by
  by_contra hle
  exact hm _ (Nat.not_lt.mp hle) h.reg_eq_zero

/-- How a block move ends, as an alternative instruction that changes registers and memory only. -/
theorem DataOnly.altReturn {s u : State} (h : DataOnly s u) : SpecialsKept s (u.altReturn 2) ∧ AltEnds s (u.altReturn 2) 2 := by
  have hpc : u.pc = s.pc := (congrArg State.pc h :)
  have hspecials : SpecialsKept s (u.altReturn 2) := h.specialsKept
  exact ⟨hspecials, altEnds_altReturn h.psw (congrArg State.freeCtr h :) (by rw [hpc])⟩

/-! ### Words -/

section
variable {s : State} {src dst : State → Byte × Word} {f1 f2 c : RegNum}

theorem wordMoved_dataOnly (src dst : State → Byte × Word) (f1 f2 c : RegNum) (s : State) : DataOnly s (wordMoved src dst f1 f2 c s) := rfl

theorem wordMoved_iterate_dataOnly (src dst : State → Byte × Word) (f1 f2 c : RegNum) (n : Nat) (s : State) :
    DataOnly s ((wordMoved src dst f1 f2 c)^[n] s) := DataOnly.iterate (wordMoved_dataOnly src dst f1 f2 c) n s

theorem wordMoved_reg (h12 : f1 ≠ f2) (hc1 : c ≠ f1) (hc2 : c ≠ f2) (s : State) (q : RegNum) :
    (wordMoved src dst f1 f2 c s).reg q = if q = c then s.reg c - 1 else if q = f1 ∨ q = f2 then s.reg q + 1 else s.reg q := by
  simp only [wordMoved, State.decrement, State.incrWord, State.setReg_reg, State.putWord_reg, if_neg hc1, if_neg hc2, if_neg h12.symm]
  by_cases hq2 : q = f2
  · simp [hq2, Ne.symm hc2]
  · by_cases hq1 : q = f1
    · simp [hq1, h12, Ne.symm hc1]
    · simp [hq1, hq2]

/-- The registers after `k` words, where none of the three does two things. -/
theorem wordMoved_iterate_reg (h12 : f1 ≠ f2) (hc1 : c ≠ f1) (hc2 : c ≠ f2) (k : Nat) (s : State) (q : RegNum) :
    ((wordMoved src dst f1 f2 c)^[k] s).reg q =
      if q = c then s.reg c - BitVec.ofNat 16 k else if q = f1 ∨ q = f2 then s.reg q + BitVec.ofNat 16 k else s.reg q := by
  induction k generalizing q with
  | zero => simp +contextual
  | succ k ih =>
    have hsub : s.reg c - BitVec.ofNat 16 k - 1 = s.reg c - BitVec.ofNat 16 (k + 1) := by rw [sub_sub, BitVec.ofNat_add]; rfl
    have hadd : s.reg q + BitVec.ofNat 16 k + 1 = s.reg q + BitVec.ofNat 16 (k + 1) := by rw [BitVec.add_assoc, BitVec.ofNat_add]; rfl
    rw [Function.iterate_succ_apply', wordMoved_reg h12 hc1 hc2, ih c, if_pos rfl, hsub, ih q]
    split
    · rfl
    · split
      · exact hadd
      · rfl

/-- Where a place of words stands for each unit in turn. -/
def Follows (unit : State → State) {α : Type} (place : State → Byte × α) (s : State) (places : Nat → Byte × α) : Prop :=
  ∀ k, place (unit^[k] s) = places k

/-- AX33: the page register keeps its page (R351, D47). -/
theorem absWord_follows (h12 : f1 ≠ f2) (hc1 : c ≠ f1) (hc2 : c ≠ f2) {f : RegNum} (hf : f = f1 ∨ f = f2) (hp1 : f + 1 ≠ f1)
    (hp2 : f + 1 ≠ f2) (hpc : f + 1 ≠ c) (s : State) :
    Follows (wordMoved src dst f1 f2 c) (absWord f) s fun k => (lowByte (s.reg (f + 1)), s.reg f + BitVec.ofNat 16 k) := by
  intro k
  have hfc : f ≠ c := by
    rcases hf with rfl | rfl
    · exact hc1.symm
    · exact hc2.symm
  have hpage : ((wordMoved src dst f1 f2 c)^[k] s).reg (f + 1) = s.reg (f + 1) := by
    rw [wordMoved_iterate_reg h12 hc1 hc2, if_neg hpc, if_neg (not_or.mpr ⟨hp1, hp2⟩)]
  show (lowByte (State.reg _ (f + 1)), State.reg _ f) = _
  rw [hpage, wordMoved_iterate_reg h12 hc1 hc2, if_neg hfc, if_pos hf]

/-- X3 (R352). -/
theorem ownWord_follows (h12 : f1 ≠ f2) (hc1 : c ≠ f1) (hc2 : c ≠ f2) {f : RegNum} (hf : f = f1 ∨ f = f2) (s : State) :
    Follows (wordMoved src dst f1 f2 c) (ownWord f) s fun k => (s.dataPage, s.base + s.reg f + BitVec.ofNat 16 k) := by
  intro k
  have hfc : f ≠ c := by
    rcases hf with rfl | rfl
    · exact hc1.symm
    · exact hc2.symm
  have honly := wordMoved_iterate_dataOnly src dst f1 f2 c k s
  rw [ownWord, honly.dataPage, honly.base, wordMoved_iterate_reg h12 hc1 hc2, if_neg hfc, if_pos hf, ← BitVec.add_assoc]

/-- A block move of words copies as many words as the count says (R353). -/
theorem answers_of_blockWords {i : Instr} (he : exec i s = outcome (blockWords src dst f1 f2 c s)) (h12 : f1 ≠ f2) (hc1 : c ≠ f1)
    (hc2 : c ≠ f2) {froms tos : Nat → Byte × Word} (hsrc : Follows (wordMoved src dst f1 f2 c) src s froms)
    (hdst : Follows (wordMoved src dst f1 f2 c) dst s tos)
    (hr : ∀ k < (s.reg c).toNat, s.reaches (.abs (froms k).1) (froms k).2 ∧ s.reaches (.abs (tos k).1) (tos k).2) :
    let index := fun (place : Nat → Byte × Word) k => wordIndex (place k).1 (place k).2
    Answers i s fun t =>
      t.mem = copiedWords (index froms) (index tos) (s.reg c).toNat s.mem ∧
        MemKeptOutside s t ((List.range (s.reg c).toNat).map (index tos)) ∧
        (∀ q, t.reg q = if q = c then 0 else if q = f1 ∨ q = f2 then s.reg q + s.reg c else s.reg q) ∧
        SpecialsKept s t ∧ AltEnds s t 2 := by
  intro index
  have honly (k : Nat) := wordMoved_iterate_dataOnly src dst f1 f2 c k s
  have hdown : CountsDown (wordMoved src dst f1 f2 c) c s := countsDown_of (fun u => by rw [wordMoved_reg h12 hc1 hc2, if_pos rfl]) s
  have hreach : ∀ m < blockFuel, CountLasts (wordMoved src dst f1 f2 c) c s m →
      unitFailure src dst ((wordMoved src dst f1 f2 c)^[m] s) = none := by
    intro m _ hm
    rw [unitFailure_none, hsrc m, hdst m, (honly m).reaches]
    exact hr m (hdown.lt_of_lasts hm)
  have hrun := blockWords_reached src dst f1 f2 c s hreach
  rw [hdown.blockState] at hrun
  have hmem : ((wordMoved src dst f1 f2 c)^[(s.reg c).toNat] s).mem = copiedWords (index froms) (index tos) (s.reg c).toNat s.mem := by
    refine mem_iterate_copiedWords fun k _ => ?_
    show _ = Memory.writeWord _ (wordIndex (tos k).1 (tos k).2) (Memory.readWord _ (wordIndex (froms k).1 (froms k).2))
    rw [← hsrc k, ← hdst k]
    rfl
  refine answers_of he hrun ⟨hmem, fun b hb => ?_, fun q => ?_, (honly _).altReturn⟩
  · rw [State.altReturn_mem, hmem, readByte_copiedWords_outside hb]
  · rw [State.altReturn_reg, wordMoved_iterate_reg h12 hc1 hc2, BitVec.ofNat_toNat, BitVec.setWidth_eq, sub_self]

end

/-- Settles O51: each form by where its two places are (R355 to R357). -/
theorem blockMovesOfWordsCopyTheWords : Obligations.BlockMovesOfWordsCopyTheWords := by
  intro s f1 f2 c h12 hc1 hc2 n abs own moves
  have hsucc (f : RegNum) : f + 1 ≠ f := by
    revert f
    decide
  refine ⟨fun h1 h1c h2 h2c hr => ?absAbs, fun h2 h2c hr => ?ownAbs, fun h1 h1c hr => ?absOwn⟩
  case absAbs =>
    exact answers_of_blockWords rfl h12 hc1 hc2 (absWord_follows h12 hc1 hc2 (.inl rfl) (hsucc f1) h1 h1c s)
      (absWord_follows h12 hc1 hc2 (.inr rfl) h2 (hsucc f2) h2c s) hr
  case ownAbs =>
    exact answers_of_blockWords rfl h12 hc1 hc2 (ownWord_follows h12 hc1 hc2 (.inl rfl) s)
      (absWord_follows h12 hc1 hc2 (.inr rfl) h2 (hsucc f2) h2c s) hr
  case absOwn =>
    exact answers_of_blockWords rfl h12 hc1 hc2 (absWord_follows h12 hc1 hc2 (.inl rfl) (hsucc f1) h1 h1c s)
      (ownWord_follows h12 hc1 hc2 (.inr rfl) s) hr

end Sys2Proof.Machine
end

section
/-! PROOF. The block moves of bytes (R358 to R360): where a byte pointer stands after `k` units (R353, D46), and the bytes that are copied. -/

namespace Sys2Proof.Machine

/-! ### Bytes of memory and byte addresses -/

/-- A byte operand is the byte of memory at its index (R90). -/
theorem byteAt_eq_readByte (s : State) (p : Byte) (ba : Nat) : s.byteAt p ba = s.mem.readByte (byteIndex p ba) := by
  rw [State.byteAt, State.word, Memory.readWord, lowByte_wordOf, highByte_wordOf, byteIndex]
  rcases Nat.mod_two_eq_zero_or_one ba with heven | hodd
  · rw [if_pos heven, heven, Nat.add_zero]
  · rw [if_neg (by omega), hodd]

/-- Byte addresses are modulo 131072 (R91). -/
theorem byteWord_congr {a b : Nat} (h : a % 131072 = b % 131072) : byteWord a = byteWord b := by
  apply BitVec.eq_of_toNat_eq
  rw [byteWord, byteWord, BitVec.toNat_ofNat, BitVec.toNat_ofNat]
  omega

theorem byteIndex_congr (p : Byte) {a b : Nat} (h : a % 131072 = b % 131072) : byteIndex p a = byteIndex p b := by
  rw [byteIndex, byteIndex, byteWord_congr h]
  omega

theorem lowByte_insertBits_high (w : Word) (v : Byte) : lowByte (insertBits w 8 v) = lowByte w := by
  apply BitVec.eq_of_getLsbD_eq
  intro i hi
  rw [lowByte, BitVec.getLsbD_extractLsb', getLsbD_insertBits_outside _ _ _ _ (by omega), ← BitVec.getLsbD_extractLsb']
  rfl

theorem highByte_insertBits_high (w : Word) (v : Byte) : highByte (insertBits w 8 v) = v := by
  apply BitVec.eq_of_getLsbD_eq
  intro i hi
  rw [highByte, BitVec.getLsbD_extractLsb', getLsbD_insertBits _ _ _ _ (by omega), if_pos (by omega), Nat.add_sub_cancel_left]
  simp [hi]

/-! ### Byte pointers -/

/-- A pair of registers that points at byte `m`, with offset 0 or 1, in the page that it has in `s` (R351, D46). -/
def PointsAt (s t : State) (f : RegNum) (m : Nat) : Prop :=
  t.reg f = BitVec.ofNat 16 (m / 2) ∧ lowByte (t.reg (f + 1)) = lowByte (s.reg (f + 1)) ∧ highByte (t.reg (f + 1)) = BitVec.ofNat 8 (m % 2)

theorem PointsAt.congr {s t : State} {f : RegNum} {m n : Nat} (h : PointsAt s t f m) (hmn : m % 131072 = n % 131072) : PointsAt s t f n := by
  obtain ⟨hword, hpage, hoffset⟩ := h
  refine ⟨hword.trans (byteWord_congr hmn), hpage, ?_⟩
  rw [hoffset, show m % 2 = n % 2 by omega]

theorem PointsAt.absByteAddress {s t : State} {f : RegNum} {m : Nat} (h : PointsAt s t f m) : t.absByteAddress f = m % 131072 := by
  obtain ⟨hword, -, hoffset⟩ := h
  show 2 * (t.reg f).toNat + (highByte (t.reg (f + 1))).toNat = _
  rw [hword, hoffset, BitVec.toNat_ofNat, BitVec.toNat_ofNat]
  omega

/-- Nothing but the two registers of a pair matters. -/
theorem PointsAt.of_regs {s s' t t' : State} {f : RegNum} {m : Nat} (h : PointsAt s t f m) (hs : s'.reg (f + 1) = s.reg (f + 1))
    (hword : t'.reg f = t.reg f) (hoffset : t'.reg (f + 1) = t.reg (f + 1)) : PointsAt s' t' f m := by
  rwa [PointsAt, hs, hword, hoffset]

theorem add_one_ne (f : RegNum) : f + 1 ≠ f := by
  revert f
  decide

theorem incrByte_eq (s : State) (f : RegNum) :
    s.incrByte f = (s.setReg f (BitVec.ofNat 16 ((s.absByteAddress f + 1) / 2))).setReg (f + 1)
      (insertBits (s.reg (f + 1)) 8 (BitVec.ofNat 8 ((s.absByteAddress f + 1) % 2))) := rfl

/-- INCR of a byte pointer (R353, D46). -/
theorem incrByte_pointsAt (s : State) (f : RegNum) : PointsAt s (s.incrByte f) f (s.absByteAddress f + 1) := by
  have hword : (s.incrByte f).reg f = BitVec.ofNat 16 ((s.absByteAddress f + 1) / 2) := by
    rw [incrByte_eq, State.setReg_reg, if_neg (add_one_ne f).symm, State.setReg_reg, if_pos rfl]
  have hoffset : (s.incrByte f).reg (f + 1) = insertBits (s.reg (f + 1)) 8 (BitVec.ofNat 8 ((s.absByteAddress f + 1) % 2)) := by
    rw [incrByte_eq, State.setReg_reg, if_pos rfl]
  exact ⟨hword, by rw [hoffset, lowByte_insertBits_high], by rw [hoffset, highByte_insertBits_high]⟩

theorem incrByte_reg_other (s : State) {f q : RegNum} (h : q ≠ f) (h' : q ≠ f + 1) : (s.incrByte f).reg q = s.reg q := by
  rw [incrByte_eq, State.setReg_reg, if_neg h', State.setReg_reg, if_neg h]

theorem absByteAddress_congr {s t : State} {f : RegNum} (hword : t.reg f = s.reg f) (hoffset : t.reg (f + 1) = s.reg (f + 1)) :
    t.absByteAddress f = s.absByteAddress f := by
  show 2 * (t.reg f).toNat + (highByte (t.reg (f + 1))).toNat = _
  rw [hword, hoffset]
  rfl

/-! ### The unit -/

section
variable {src dst : State → Byte × Nat} {f1 f2 c : RegNum}

theorem byteMoved_dataOnly (src dst : State → Byte × Nat) (f1 f2 c : RegNum) (s : State) : DataOnly s (byteMoved src dst f1 f2 c s) := rfl

theorem byteMoved_iterate_dataOnly (src dst : State → Byte × Nat) (f1 f2 c : RegNum) (n : Nat) (s : State) :
    DataOnly s ((byteMoved src dst f1 f2 c)^[n] s) := DataOnly.iterate (byteMoved_dataOnly src dst f1 f2 c) n s

/-- The five registers of a block move of bytes are different registers. -/
structure Apart (f1 f2 c : RegNum) : Prop where
  pointers : f1 ≠ f2
  firstPage : f1 + 1 ≠ f2
  secondPage : f2 + 1 ≠ f1
  count1 : c ≠ f1
  countPage1 : c ≠ f1 + 1
  count2 : c ≠ f2
  countPage2 : c ≠ f2 + 1

theorem apart_of_nodup (h : [f1, f1 + 1, f2, f2 + 1, c].Nodup) : Apart f1 f2 c := by
  obtain ⟨h1, hrest⟩ := List.nodup_cons.mp h
  obtain ⟨h1', hrest⟩ := List.nodup_cons.mp hrest
  obtain ⟨h2, hrest⟩ := List.nodup_cons.mp hrest
  obtain ⟨h2', -⟩ := List.nodup_cons.mp hrest
  simp only [List.mem_cons, not_or] at h1 h1' h2 h2'
  obtain ⟨-, h12, h12', h1c, -⟩ := h1
  obtain ⟨h1'2, -, h1'c, -⟩ := h1'
  obtain ⟨-, h2c, -⟩ := h2
  obtain ⟨h2'c, -⟩ := h2'
  exact ⟨h12, h1'2, Ne.symm h12', Ne.symm h1c, Ne.symm h1'c, Ne.symm h2c, Ne.symm h2'c⟩

/-- The registers that a unit leaves alone. -/
theorem byteMoved_reg_other (s : State) {q : RegNum} (hq : q ∉ [f1, f1 + 1, f2, f2 + 1, c]) :
    (byteMoved src dst f1 f2 c s).reg q = s.reg q := by
  simp only [List.mem_cons, List.not_mem_nil, or_false, not_or] at hq
  obtain ⟨h1, h1', h2, h2', hc⟩ := hq
  rw [byteMoved, State.decrement, State.setReg_reg, if_neg hc, incrByte_reg_other _ h2 h2', incrByte_reg_other _ h1 h1']
  rfl

variable (h : Apart f1 f2 c)
include h

theorem byteMoved_count (s : State) : (byteMoved src dst f1 f2 c s).reg c = s.reg c - 1 := by
  rw [byteMoved, State.decrement, State.setReg_reg, if_pos rfl, incrByte_reg_other _ h.count2 h.countPage2,
    incrByte_reg_other _ h.count1 h.countPage1]
  rfl

/-- A unit moves both pointers one byte on. -/
theorem byteMoved_pointsAt (s : State) {f : RegNum} (hf : f = f1 ∨ f = f2) :
    PointsAt s (byteMoved src dst f1 f2 c s) f (s.absByteAddress f + 1) := by
  have hpages : f1 + 1 ≠ f2 + 1 := fun he => h.pointers (add_right_cancel he)
  set u := s.putByte (dst s).1 (dst s).2 (s.byteAt (src s).1 (src s).2)
  have hdecr (t : State) {q : RegNum} (hq : c ≠ q) : (t.decrement c).reg q = t.reg q := by
    rw [State.decrement, State.setReg_reg, if_neg hq.symm]
  rcases hf with rfl | rfl
  · refine (incrByte_pointsAt u f).of_regs rfl ?_ ?_
    · exact (hdecr _ h.count1).trans (incrByte_reg_other _ h.pointers h.secondPage.symm)
    · exact (hdecr _ h.countPage1).trans (incrByte_reg_other _ h.firstPage hpages)
  · have hword : (u.incrByte f1).reg f = s.reg f := incrByte_reg_other _ h.pointers.symm h.firstPage.symm
    have hoffset : (u.incrByte f1).reg (f + 1) = s.reg (f + 1) := incrByte_reg_other _ h.secondPage hpages.symm
    have hincr := incrByte_pointsAt (u.incrByte f1) f
    rw [absByteAddress_congr hword hoffset] at hincr
    exact hincr.of_regs hoffset.symm (hdecr _ h.count2) (hdecr _ h.countPage2)

/-- After at least one unit a pointer is as far on as there were units. -/
theorem byteMoved_iterate_pointsAt (k : Nat) (s : State) {f : RegNum} (hf : f = f1 ∨ f = f2) :
    PointsAt s ((byteMoved src dst f1 f2 c)^[k + 1] s) f (s.absByteAddress f + (k + 1)) := by
  induction k with
  | zero => exact byteMoved_pointsAt h s hf
  | succ k ih =>
    have hstep := byteMoved_pointsAt (src := src) (dst := dst) h ((byteMoved src dst f1 f2 c)^[k + 1] s) hf
    rw [← Function.iterate_succ_apply' (byteMoved src dst f1 f2 c), ih.absByteAddress] at hstep
    obtain ⟨hword, hpage, hoffset⟩ := hstep
    have hmoved : PointsAt s ((byteMoved src dst f1 f2 c)^[k + 1 + 1] s) f ((s.absByteAddress f + (k + 1)) % 131072 + 1) :=
      ⟨hword, hpage.trans ih.2.1, hoffset⟩
    exact hmoved.congr (by omega)

/-- Where a pointer stands after any number of units: in the same page, and as many bytes on. -/
theorem byteMoved_iterate_absByte (k : Nat) (s : State) {f : RegNum} (hf : f = f1 ∨ f = f2) :
    ((byteMoved src dst f1 f2 c)^[k] s).pairPage f = lowByte (s.reg (f + 1)) ∧
      ((byteMoved src dst f1 f2 c)^[k] s).absByteAddress f % 131072 = (s.absByteAddress f + k) % 131072 := by
  cases k with
  | zero => exact ⟨rfl, rfl⟩
  | succ k =>
    have hmoved := byteMoved_iterate_pointsAt (src := src) (dst := dst) h k s hf
    refine ⟨hmoved.2.1, ?_⟩
    rw [hmoved.absByteAddress, Nat.mod_mod]

end

/-! ### The bytes -/

/-- Where a place of bytes stands for each unit in turn, its address modulo 131072. -/
def FollowsBytes (unit : State → State) (place : State → Byte × Nat) (s : State) (places : Nat → Byte × Nat) : Prop :=
  ∀ k, (place (unit^[k] s)).1 = (places k).1 ∧ (place (unit^[k] s)).2 % 131072 = (places k).2 % 131072

section
variable {s : State} {src dst : State → Byte × Nat} {f1 f2 c : RegNum}

/-- ABX33 (R351). -/
theorem absByte_follows (h : Apart f1 f2 c) {f : RegNum} (hf : f = f1 ∨ f = f2) (s : State) :
    FollowsBytes (byteMoved src dst f1 f2 c) (absByte f) s fun k => (lowByte (s.reg (f + 1)), s.absByteAddress f + k) :=
  fun k => byteMoved_iterate_absByte h k s hf

/-- BX33 (R352). -/
theorem ownByte_follows (h : Apart f1 f2 c) {f : RegNum} (hf : f = f1 ∨ f = f2) (s : State) :
    FollowsBytes (byteMoved src dst f1 f2 c) (ownByte f) s fun k =>
      (s.dataPage, (2 * s.base.toNat + s.absByteAddress f + k) % 131072) := by
  intro k
  have honly := byteMoved_iterate_dataOnly src dst f1 f2 c k s
  obtain ⟨-, hat⟩ := byteMoved_iterate_absByte (src := src) (dst := dst) h k s hf
  refine ⟨honly.dataPage, ?_⟩
  have howned (t : State) : t.ownByteAddress f = (2 * t.base.toNat + t.absByteAddress f) % 131072 := by
    rw [State.ownByteAddress, State.absByteAddress, Nat.add_assoc]
  show State.ownByteAddress _ f % 131072 = _ % 131072 % 131072
  rw [howned, honly.base]
  omega

/-- A block move of bytes copies as many bytes as the count says (R353). -/
theorem answers_of_blockBytes {i : Instr} (he : exec i s = outcome (blockBytes src dst f1 f2 c s)) (h : Apart f1 f2 c)
    {froms tos : Nat → Byte × Nat} (hsrc : FollowsBytes (byteMoved src dst f1 f2 c) src s froms)
    (hdst : FollowsBytes (byteMoved src dst f1 f2 c) dst s tos)
    (hr : ∀ k < (s.reg c).toNat, s.reaches (.abs (froms k).1) (byteWord (froms k).2) ∧ s.reaches (.abs (tos k).1) (byteWord (tos k).2)) :
    let n := (s.reg c).toNat
    let index := fun (place : Nat → Byte × Nat) k => byteIndex (place k).1 (place k).2
    Answers i s fun t =>
      t.mem = copiedBytes (index froms) (index tos) n s.mem ∧
        (∀ b, b ∉ (List.range n).map (index tos) → t.mem.readByte b = s.mem.readByte b) ∧
        (if n = 0 then RegsKept s t
         else PointsAt s t f1 (s.absByteAddress f1 + n) ∧ PointsAt s t f2 (s.absByteAddress f2 + n) ∧ t.reg c = 0 ∧
           ∀ q, q ∉ [f1, f1 + 1, f2, f2 + 1, c] → t.reg q = s.reg q) ∧
        SpecialsKept s t ∧ AltEnds s t 2 := by
  intro n index
  have honly (k : Nat) := byteMoved_iterate_dataOnly src dst f1 f2 c k s
  have hdown : CountsDown (byteMoved src dst f1 f2 c) c s := countsDown_of (byteMoved_count h) s
  have hreach : ∀ m < blockFuel, CountLasts (byteMoved src dst f1 f2 c) c s m →
      unitFailure (inWord src) (inWord dst) ((byteMoved src dst f1 f2 c)^[m] s) = none := by
    intro m _ hm
    obtain ⟨hpage, haddr⟩ := hsrc m
    obtain ⟨hpage', haddr'⟩ := hdst m
    rw [unitFailure_none, inWord, inWord, hpage, hpage', byteWord_congr haddr, byteWord_congr haddr', (honly m).reaches]
    exact hr m (hdown.lt_of_lasts hm)
  have hrun := blockBytes_reached src dst f1 f2 c s hreach
  rw [hdown.blockState] at hrun
  have hmem : ((byteMoved src dst f1 f2 c)^[n] s).mem = copiedBytes (index froms) (index tos) n s.mem := by
    refine mem_iterate_copiedBytes fun k _ => ?_
    obtain ⟨hpage, haddr⟩ := hsrc k
    obtain ⟨hpage', haddr'⟩ := hdst k
    show _ = Memory.writeByte _ (byteIndex (tos k).1 (tos k).2) (Memory.readByte _ (byteIndex (froms k).1 (froms k).2))
    rw [← hpage, ← hpage', ← byteIndex_congr _ haddr, ← byteIndex_congr _ haddr', ← byteAt_eq_readByte]
    rfl
  refine answers_of he hrun ⟨hmem, fun b hb => ?_, ?_, (honly _).altReturn⟩
  · rw [State.altReturn_mem, hmem, readByte_copiedBytes_outside hb]
  · have hothers (q : RegNum) (hq : q ∉ [f1, f1 + 1, f2, f2 + 1, c]) (k : Nat) : ((byteMoved src dst f1 f2 c)^[k] s).reg q = s.reg q := by
      induction k with
      | zero => rfl
      | succ k ih => rw [Function.iterate_succ_apply', byteMoved_reg_other _ hq, ih]
    have hcount : ((byteMoved src dst f1 f2 c)^[n] s).reg c = 0 := hdown.reg_eq_zero
    change if n = 0 then RegsKept s (((byteMoved src dst f1 f2 c)^[n] s).altReturn 2) else _
    split
    · next hn =>
      rw [hn]
      exact fun _ => rfl
    · next hn =>
      have hpoints (f : RegNum) (hf : f = f1 ∨ f = f2) : PointsAt s ((byteMoved src dst f1 f2 c)^[n] s) f (s.absByteAddress f + n) := by
        obtain ⟨k, hk⟩ := Nat.exists_eq_succ_of_ne_zero hn
        rw [hk]
        exact byteMoved_iterate_pointsAt h k s hf
      exact ⟨hpoints f1 (.inl rfl), hpoints f2 (.inr rfl), hcount, fun q hq => hothers q hq _⟩

end

/-- Settles O52: each form by where its two places are (R358 to R360). -/
theorem blockMovesOfBytesCopyTheBytes : Obligations.BlockMovesOfBytesCopyTheBytes := by
  intro s f1 f2 c hnodup n start abs own moved moves
  have h := apart_of_nodup hnodup
  exact ⟨fun hr => answers_of_blockBytes rfl h (absByte_follows h (.inl rfl) s) (absByte_follows h (.inr rfl) s) hr,
    fun hr => answers_of_blockBytes rfl h (ownByte_follows h (.inl rfl) s) (absByte_follows h (.inr rfl) s) hr,
    fun hr => answers_of_blockBytes rfl h (absByte_follows h (.inl rfl) s) (ownByte_follows h (.inr rfl) s) hr⟩

end Sys2Proof.Machine
end

section
/-! PROOF. The error exit of the alternative instructions that have one (R354, R386, D48). -/

namespace Sys2Proof.Machine

/-- What a transfer inside an alternative instruction may have changed before it fails: registers, memory, the cache enable, semaphore blocking, the
waiting answers and the trace. -/
def ExitReached (s u : State) : Prop :=
  { u with x := s.x, mem := s.mem, cacheOn := s.cacheOn, semBlock := s.semBlock, ioReplies := s.ioReplies, trace := s.trace } = s

theorem DataOnly.exitReached {s u : State} (h : DataOnly s u) : ExitReached s u :=
  (congrArg (fun t : State =>
    { t with cacheOn := s.cacheOn, semBlock := s.semBlock, ioReplies := s.ioReplies, trace := s.trace }) h :)

/-- An instruction that leaves by the error exit with failure `k`, having reached the state `u` (R386). -/
def Exits (i : Instr) (s : State) (k : TransferKind) (u : State) : Prop :=
  Answers i s fun t =>
    RegsKept u t ∧ WordsSet u t s.dataPage [(s.base + 16, s.pc), (s.base + 17, match k with | .parity => 2 | .timeOut => 3)] ∧
      PswChanged s t [(15, true), (14, true), (12, false)] ∧ SpecialsKept u t ∧ EndsAfter s t 1

/-- The mask set and PSW bit 12 cleared (R386). -/
theorem pswChanged_exit (s : State) : PswChanged s ((s.setMask 3).altReturn 1) [(15, true), (14, true), (12, false)] := by
  obtain ⟨hset, houtside, -⟩ := pswChanged_setMask s 3
  have hkept (n : Nat) (hn : n ≠ 12) : ((s.setMask 3).altReturn 1).psw.getLsbD n = (s.setMask 3).psw.getLsbD n :=
    getLsbD_insertBits_outside _ _ _ _ (by omega)
  refine ⟨?inside, fun n hn => ?outside, rfl⟩
  case inside =>
    simp only [List.forall_mem_cons] at hset ⊢
    obtain ⟨h15, h14, hnil⟩ := hset
    exact ⟨(hkept 15 (by decide)).trans h15, (hkept 14 (by decide)).trans h14, getLsbD_insertBit_same _ _ _ (by decide),
      fun _ h => absurd h List.not_mem_nil⟩
  case outside =>
    simp only [List.map_cons, List.map_nil, List.mem_cons, List.not_mem_nil, or_false, not_or] at hn houtside
    obtain ⟨h15, h14, h12⟩ := hn
    exact (hkept n h12).trans (houtside n ⟨h15, h14⟩)

theorem specialsKept_exit {u v : State} (h : DataOnly u v) : SpecialsKept u ((v.setMask 3).altReturn 1) :=
  (congrArg (fun w : State => { w with pc := u.pc, mod := u.mod, modified := u.modified, psw := u.psw, freeCtr := u.freeCtr }) h :)

/-- The whole effect of the error exit, from the state in which the transfer fails (R386). -/
theorem errorExit_effect {u t : State} {k : TransferKind} (h : u.errorExit k = .ok t) :
    RegsKept u t ∧ WordsSet u t u.dataPage [(u.base + 16, u.pc), (u.base + 17, causeOf k)] ∧
      PswChanged u t [(15, true), (14, true), (12, false)] ∧ SpecialsKept u t ∧ EndsAfter u t 1 := by
  obtain ⟨-, -, rfl⟩ := (errorExit_ok u k t).mp h
  have hne : u.base + 16 ≠ u.base + 17 := fun he => absurd (add_left_cancel he) (by decide)
  have hpsw := pswChanged_exit ((u.putWord u.dataPage (u.base + 16) u.pc).putWord u.dataPage (u.base + 17) (causeOf k))
  refine ⟨fun q => ?_, wordsSet_pair_of_mem hne ?_, hpsw, specialsKept_exit (((DataOnly.refl u).putWord _ _ _).putWord _ _ _), ?_⟩
  · simp only [State.altReturn_reg, State.setMask_reg, State.putWord_reg]
  · simp only [State.altReturn_mem, State.setMask_mem, State.putWord_mem]
  · simp only [EndsAfter, State.altReturn_pc, State.altReturn_mod, State.altReturn_modified, State.setMask_pc, State.putWord_pc, true_and]

section
variable {i : Instr} {s u : State} {r : Run State} {k : TransferKind}

theorem exits_of (he : exec i s = outcome r) (hr : r = u.errorExit k) (hu : ExitReached s u) (h16 : s.dataReaches (s.base + 16))
    (h17 : s.dataReaches (s.base + 17)) : Exits i s k u := by
  have hbase : u.base = s.base := (congrArg State.base hu :)
  have hpage : u.dataPage = s.dataPage := (congrArg State.dataPage hu :)
  have hreaches : u.reaches = s.reaches := (congrArg State.reaches hu :)
  have hpc : u.pc = s.pc := (congrArg State.pc hu :)
  have hpsw : u.psw = s.psw := (congrArg State.psw hu :)
  have hfree : u.freeCtr = s.freeCtr := (congrArg State.freeCtr hu :)
  obtain ⟨t, hrun⟩ : ∃ t, u.errorExit k = .ok t :=
    ⟨_, (errorExit_ok u k _).mpr ⟨by rwa [hreaches, hpage, hbase], by rwa [hreaches, hpage, hbase], rfl⟩⟩
  obtain ⟨hregs, hwords, ⟨hbits, hothers, hctr⟩, hspecials, hends⟩ := errorExit_effect hrun
  rw [hpage, hbase, hpc] at hwords
  rw [EndsAfter, hpc] at hends
  rw [hpsw] at hothers
  refine answers_of he (hr.trans hrun) ⟨hregs, ?_, ⟨hbits, hothers, hctr.trans hfree⟩, hspecials, hends⟩
  cases k with
  | parity => exact hwords
  | timeOut => exact hwords

end

/-- The cache enable where a transfer between the two cache statements fails: disabled on CPU type 7 where PSW bit 13 is 1 (log 27). -/
theorem bracketCache_false_eq (s : State) :
    s.bracketCache false = { s with cacheOn := s.cacheOn && !(decide (s.plat.cpu = .type7) && s.psw.getLsbD 13) } := by
  rw [bracketCache_eq, bracketCache_cacheOn, State.ca]
  by_cases hcpu : s.plat.cpu = .type7
  · cases s.psw.getLsbD 13 <;> simp [hcpu]
  · simp [hcpu]

/-- Settles O59: the one transfer of AMOW, AMOB, ARESS and ARELS, any unit of the block moves, and each way in which DRD and DWR fail. -/
theorem failingTransferTakesTheErrorExit : Obligations.FailingTransferTakesTheErrorExit := by
  intro s k h16 h17 exits
  have hexits {i : Instr} {u : State} {r : Run State} (he : exec i s = outcome r) (hr : r = u.errorExit k) (hu : ExitReached s u) :
      exits i u := exits_of he hr hu h16 h17
  refine ⟨?single, ?block, ?device⟩
  case single =>
    intro f1 f2 c p ba off
    have hoff : off = s.bracketCache false := (bracketCache_false_eq s).symm
    have hreached : ExitReached s off := rfl
    refine ⟨fun hw => ?_, fun hb => ?_⟩
    · exact ⟨hexits rfl (by rw [hoff]; exact absLoadWord_failed f1 f2 s k hw) hreached,
        hexits rfl (by rw [hoff]; exact absStoreWord_failed f1 f2 s k hw) hreached,
        hexits rfl (by rw [hoff]; exact absReserve_failed f1 c s k hw) rfl,
        hexits rfl (by rw [hoff]; exact absRelease_failed f1 c s k hw) rfl⟩
    · exact ⟨hexits rfl (by rw [hoff]; exact absLoadByte_failed f1 f2 s k hb) hreached,
        hexits rfl (by rw [hoff]; exact absStoreByte_failed f1 f2 s k hb) hreached⟩
  case block =>
    intro f1 f2 c m hm fails words bytes
    have hwords (i : Instr) (src dst : State → Byte × Word) (he : exec i s = outcome (blockWords src dst f1 f2 c s)) : words i src dst :=
      fun hcount hbefore hfails => hexits he (blockWords_failed src dst f1 f2 c s m k hm hcount hbefore hfails)
        (wordMoved_iterate_dataOnly src dst f1 f2 c m s).exitReached
    have hbytes (i : Instr) (src dst : State → Byte × Nat) (he : exec i s = outcome (blockBytes src dst f1 f2 c s)) : bytes i src dst :=
      fun hcount hbefore hfails => hexits he (blockBytes_failed src dst f1 f2 c s m k hm hcount hbefore hfails)
        (byteMoved_iterate_dataOnly src dst f1 f2 c m s).exitReached
    exact ⟨hwords _ _ _ rfl, hwords _ _ _ rfl, hwords _ _ _ rfl, hbytes _ _ _ rfl, hbytes _ _ _ rfl, hbytes _ _ _ rfl⟩
  case device =>
    intro f1 f2 dev a used
    have hword (ha : s.dataReaches a) : s.placeReaches ((Operand.x3 f1).loc s) := by
      rw [loc_x3]
      exact ha
    refine ⟨fun hdev => ⟨?_, ?_, ?_, fun ha => ?_⟩, fun hdev => ⟨fun hreply => ⟨?_, ?_⟩, fun hreply => ⟨?_, fun ha => ?_⟩⟩,
      fun ha => ⟨fun v hanswer => ?_, ?_⟩⟩
    · exact hexits rfl (deviceRead_unreached _ _ _ _ hdev) rfl
    · exact hexits rfl (deviceRead_unreached _ _ _ _ hdev) rfl
    · exact hexits rfl (deviceWrite_unreached _ _ _ _ trivial hdev) rfl
    · exact hexits rfl (deviceWrite_unreached _ _ _ _ (hword ha) hdev) rfl
    · exact hexits rfl (deviceRead_unanswered _ _ _ _ hdev hreply) rfl
    · exact hexits rfl (deviceRead_unanswered _ _ _ _ hdev hreply) rfl
    · exact hexits rfl (deviceWrite_unanswered _ _ _ _ trivial hdev hreply) rfl
    · exact hexits rfl (deviceWrite_unanswered _ _ _ _ (hword ha) hdev hreply) rfl
    · exact hexits rfl (deviceRead_unstored _ _ _ _ _ _ hanswer (loc_x3 s f1) ha) rfl
    · exact hexits rfl (deviceWrite_unread _ _ _ _ _ (loc_x3 s f1) ha) rfl

end Sys2Proof.Machine
end

section
/-! PROOF. An instruction without an error exit stops at the first of its transfers that fails (R384, D21, D43): each shared operation once, then
every instruction. -/

namespace Sys2Proof.Machine

/-! ### One or two transfers, after which nothing fails -/

section
variable {s : State} {m : Memory} {p : Byte} {a : Word} {ts : List Transfer}

/-- A word whose failing stops a run. -/
theorem stopsAt_word {r : Run State}
    (h : ∀ k, transferFailure s.plat (.abs p) a = some k → ∃ t, r = .error (.fault (.transferError k (.abs p) a t)) ∧ t.mem = m) :
    StopsAt s m [.word (.abs p) a] r := by
  refine stopsAt_cons s m _ [] _ (fun k sp b hfailure => ?_) fun _ => stopsAt_nil _ _ _
  obtain ⟨k', hk, he⟩ := (failure_word s _ _ _).mp hfailure
  cases he
  exact h k hk

theorem stopsAt_lastLoad {u : State} {f : Word → Run State} (hplat : u.plat = s.plat) (hmem : u.mem = m) :
    StopsAt s m [.word (.abs p) a] (u.load p a >>= f) :=
  stopsAt_load s u m p a [] f hplat hmem fun _ => stopsAt_nil _ _ _

variable {o o1 o2 : Operand}

/-- Everything that starts with the read of its only operand outside the registers. -/
theorem stopsAt_operand {f : Word → Run State} : StopsAt s s.mem (s.operand o) (s.read (o.loc s) >>= f) :=
  stopsAt_lastRead s s s.mem _ f rfl rfl rfl

/-- Everything that starts with the write of its only operand outside the registers. -/
theorem stopsAt_destination {v : Word} {f : State → Run State} : StopsAt s s.mem (s.operand o) (s.write (o.loc s) v >>= f) :=
  stopsAt_lastWrite s s s.mem _ v f rfl rfl rfl

/-- Everything that starts with the reads of two operands. -/
theorem stopsAt_operands {f : Word → Word → Run State} :
    StopsAt s s.mem (s.operand o1 ++ s.operand o2) (s.read (o1.loc s) >>= fun v => s.read (o2.loc s) >>= f v) :=
  stopsAt_read s s s.mem _ _ _ rfl rfl rfl fun _ => stopsAt_operand

/-- MOV: the source read, the destination written (R182). -/
theorem stopsAt_move : StopsAt s s.mem (s.operand o1 ++ s.operand o2) (move o1 o2 s) :=
  stopsAt_read s s s.mem _ _ _ rfl rfl rfl fun _ => stopsAt_destination

/-- What follows a run that stops. -/
theorem StopsAt.bind {x : Run State} (h : StopsAt s m ts x) (f : State → Run State) : StopsAt s m ts (x >>= f) := by
  intro k sp b hfailure
  obtain ⟨t, rfl, hmem⟩ := h k sp b hfailure
  exact ⟨t, rfl, hmem⟩

/-- A list of transfers under another name. -/
theorem StopsAt.of_eq {ts' : List Transfer} {r : Run State} (h : StopsAt s m ts r) (he : ts' = ts) : StopsAt s m ts' r := he ▸ h

/-- One run after another. -/
theorem stopsAt_bind {ts' : List Transfer} {x : Run State} {f : State → Run State} (hx : StopsAt s m ts x)
    (hf : s.firstFailure ts = none → ∃ u, x = .ok u ∧ StopsAt s (ts.foldl Transfer.applied m) ts' (f u)) :
    StopsAt s m (ts ++ ts') (x >>= f) := by
  intro k sp b hfailure
  rw [State.firstFailure, List.findSome?_append] at hfailure
  cases hfirst : ts.findSome? (Transfer.failure s) with
  | some e =>
    rw [hfirst] at hfailure
    cases hfailure
    obtain ⟨t, rfl, hmem⟩ := hx k sp b hfirst
    refine ⟨t, rfl, hmem.trans (congrArg (List.foldl Transfer.applied m) ?_)⟩
    obtain ⟨x, hxmem, hxfail⟩ := List.exists_of_findSome?_eq_some hfirst
    rw [List.takeWhile_append, if_neg fun hlen => ?_]
    have hall := List.takeWhile_eq_self_iff.mp (List.takeWhile_sublist _ |>.eq_of_length hlen) x hxmem
    rw [hxfail] at hall
    exact Bool.false_ne_true hall
  | none =>
    rw [hfirst] at hfailure
    obtain ⟨u, rfl, hrest⟩ := hf hfirst
    obtain ⟨t, hrun, hmem⟩ := hrest k sp b hfailure
    have hall : ∀ x ∈ ts, (x.failure s).isNone = true := fun x hxmem =>
      Option.isNone_iff_eq_none.mpr (List.findSome?_eq_none_iff.mp hfirst x hxmem)
    refine ⟨t, hrun, hmem.trans ?_⟩
    rw [List.takeWhile_append_of_pos hall, List.foldl_append]

end

/-! ### The operations of the standard set -/

section
variable {s : State} {o o1 o2 : Operand} {r f1 f2 : RegNum} {a : Word} {c : BitVec 4}

theorem stopsAt_jumpOn {zero : Bool} {d : Word} : StopsAt s s.mem (if s.modified then [] else s.operand o) (jumpOn zero o d s) := by
  unfold jumpOn
  split
  · exact stopsAt_nil _ _ _
  · exact stopsAt_operand

theorem stopsAt_moveLongIn : StopsAt s s.mem [s.dataWord a, s.dataWord (a + 1)] (moveLongIn a r s) :=
  stopsAt_load s s _ _ _ _ _ rfl rfl fun _ => stopsAt_lastLoad rfl rfl

theorem stopsAt_moveLongOut : StopsAt s s.mem [.store s.dataPage a (s.reg r), s.dataWord (a + 1)] (moveLongOut r a s) :=
  stopsAt_store s s _ _ _ _ _ _ rfl rfl fun _ => stopsAt_lastStore s _ _ _ _ _ _ rfl rfl

theorem stopsAt_put : StopsAt s s.mem (s.operand o ++ [s.dataWord (s.base + s.reg f2)]) (put o f2 s) :=
  stopsAt_read s s _ _ _ _ rfl rfl rfl fun _ => stopsAt_lastLoad rfl rfl

theorem stopsAt_stackValue :
    StopsAt s s.mem ((s.setReg f2 (s.reg f2 + 1)).operand o ++ [s.dataWord (s.base + (s.reg f2 + 1) + s.mod)]) (stackValue o f2 s) := by
  refine stopsAt_read s (s.setReg f2 (s.reg f2 + 1)) _ _ _ _ rfl rfl rfl fun _ => ?_
  have htop : (s.setReg f2 (s.reg f2 + 1)).reg f2 = s.reg f2 + 1 := by rw [State.setReg_reg, if_pos rfl]
  rw [htop]
  exact stopsAt_lastStore s _ _ _ _ _ _ rfl rfl

theorem stopsAt_unstackValue : StopsAt s s.mem (s.dataWord (s.base + s.reg f2 + s.mod) :: s.operand o) (unstackValue o f2 s) :=
  stopsAt_load s s _ _ _ _ _ rfl rfl fun _ => stopsAt_destination

/-- DICP and DDCP of two words: the first whole before the second is read (R234, R235). -/
theorem stopsAt_updatePair {f : Word → Word} (ho : o.loc s = .data a) :
    StopsAt s s.mem [s.dataWord a, .store s.dataPage a (f (s.data a)), s.dataWord (a + 1)] (updatePair f o s) := by
  unfold updatePair
  rw [ho]
  exact stopsAt_load s s _ _ _ _ _ rfl rfl fun _ => stopsAt_store s s _ _ _ _ _ _ rfl rfl fun _ => stopsAt_lastLoad rfl rfl

/-- The low half of the product is the product of the words (R221). -/
theorem product_low (v w : Word) : (product v w).extractLsb' 0 16 = v * w := by
  have hlow (n : Int) : (BitVec.ofInt 32 n).extractLsb' 0 16 = BitVec.ofInt 16 n := by
    apply BitVec.eq_of_toNat_eq
    rw [BitVec.extractLsb'_toNat, BitVec.toNat_ofInt, BitVec.toNat_ofInt, Nat.shiftRight_zero]
    omega
  rw [product, hlow, BitVec.ofInt_mul, BitVec.ofInt_toInt, BitVec.ofInt_toInt]

theorem stopsAt_multiply :
    let e := s.base + s.reg f2 + s.mod
    StopsAt s s.mem (s.operand o ++ [s.dataWord e, .store s.dataPage e (s.valueAt (o.loc s) * s.data e), s.dataWord (e + 1)])
      (multiply o f2 s) := by
  refine stopsAt_read s s _ _ _ _ rfl rfl rfl fun _ => stopsAt_load s s _ _ _ _ _ rfl rfl fun _ => ?_
  rw [← product_low]
  exact stopsAt_store s s _ _ _ _ _ _ rfl rfl fun _ => stopsAt_lastStore s _ _ _ _ _ _ rfl rfl

theorem stopsAt_shiftLong {f : BitVec 32 → Nat → BitVec 32} (ho : o.loc s = .data a) :
    StopsAt s s.mem (ascending s.dataPage a 2) (shiftLong f o c s) := by
  unfold shiftLong
  rw [ho, ascending_succ, ascending_succ]
  exact stopsAt_load s s _ _ _ _ _ rfl rfl fun _ => stopsAt_lastLoad rfl rfl

theorem stopsAt_release : StopsAt s s.mem [s.dataWord (s.base + s.reg f1)] (release f1 c s) :=
  stopsAt_word fun k hk => ⟨{ s with semBlock := false }, by rw [release, releaseBit_failed s _ _ c k hk, error_bind], rfl⟩

theorem stopsAt_reserve : StopsAt s s.mem [s.dataWord (s.base + s.reg f1)] (reserve f1 c s) :=
  stopsAt_word fun k hk => ⟨{ s with semBlock := false }, by rw [reserve, reserveBit_failed s _ _ c k hk, error_bind], rfl⟩

theorem stopsAt_executeIndirect : StopsAt s s.mem [s.dataWord a, s.dataWord (s.base + s.data a)] (executeIndirect a s) :=
  stopsAt_load s s _ _ _ _ _ rfl rfl fun _ => stopsAt_lastLoad rfl rfl

theorem stopsAt_ownParameter {f : Word → State} {k : BitVec 8} :
    StopsAt s s.mem [s.progWord (s.prog + zext k)] ((s.ownParameter k).map f) := by
  refine stopsAt_word fun e he => ⟨s, ?_, rfl⟩
  rw [State.ownParameter, State.loadProg, load_failed s _ _ e he]
  rfl

/-! ### Devices -/

theorem stopsAt_input {k : IoKind} : StopsAt s s.mem (.device k (s.device f1) :: s.operand o) (input k o f1 s) := by
  unfold input State.ioRead
  rw [bind_assoc]
  exact stopsAt_ioTransfer s s _ _ _ _ _ rfl rfl rfl fun v _ => stopsAt_lastWrite s _ _ _ _ _ rfl rfl rfl

theorem stopsAt_output {k : IoKind} : StopsAt s s.mem (s.operand o ++ [.device k (s.device f1)]) (output k o f1 s) := by
  unfold output State.ioWrite
  refine stopsAt_read s s _ _ _ _ rfl rfl rfl fun _ => ?_
  rw [bind_assoc]
  exact stopsAt_ioTransfer s s _ _ _ _ _ rfl rfl rfl fun v _ => stopsAt_nil _ _ _

/-! ### Monitor call and return -/

theorem stopsAt_monitorCall {k : BitVec 8} :
    StopsAt s s.mem (if k.toNat < 64 then [] else [.word (.abs (progPage s.plat false (s.level + 1) s.umap s.spm)) (zext k)])
      (monitorCall k s) := by
  unfold monitorCall
  split
  · exact stopsAt_nil _ _ _
  · next hge =>
    rw [if_neg fun h => hge ((monitorCode_lt k).mp h), State.loadProg, enterMonitor_progCur]
    exact stopsAt_lastLoad rfl rfl

/-- BOUND read where the level counter is then 0 (R327). -/
theorem stopsAt_leaveMonitor {f : State → Run State} : StopsAt s s.mem s.returnTransfers (s.leaveMonitor >>= f) := by
  have hbound (u : State) (hlevel : u.level = s.level - 1) (hbase : u.base = s.base) (hpage : u.dataPage = s.dataPage)
      (hplat : u.plat = s.plat) (hmem : u.mem = s.mem) :
      StopsAt s s.mem s.returnTransfers
        ((if counterZero u.level then (do let b ← u.loadData (u.base - 1); pure { u with bound := b }) else pure u : Run State) >>= f) := by
    unfold State.returnTransfers
    split
    · next hcounter =>
      rw [if_pos (by rw [hlevel]; exact (counterZero_iff _).mpr hcounter), bind_assoc, State.dataWord, ← hbase, ← hpage]
      exact stopsAt_lastLoad hplat hmem
    · exact stopsAt_nil _ _ _
  unfold State.leaveMonitor
  refine hbound _ ?_ ?_ ?_ ?_ ?_
  all_goals split
  all_goals rfl

theorem stopsAt_returnMonitorIndirect : StopsAt s s.mem (s.dataWord a :: s.returnTransfers) (returnMonitorIndirect a s) :=
  stopsAt_load s s _ _ _ _ _ rfl rfl fun _ => stopsAt_leaveMonitor

end

/-! ### Multiple moves -/

/-- MOVM: the read and the write of each word, from the `j`-th on (R187). -/
theorem stopsAt_moveWords (f1 f2 : RegNum) (s : State) (n j : Nat) (f : State → Run State) :
    let src := fun k : Nat => s.base + s.reg f1 + BitVec.ofNat 16 (wordStride f1 f2 * k)
    let dst := fun k : Nat => s.base + s.reg f2 + BitVec.ofNat 16 (wordStride f1 f2 * k)
    StopsAt s ((wordStep f1 f2)^[j] s).mem
      ((List.range' j n).flatMap fun k =>
        [s.dataWord (src k), .store s.dataPage (dst k) (((wordStep f1 f2)^[k] s).data (src k))])
      (moveWords f1 f2 n ((wordStep f1 f2)^[j] s) >>= f) := by
  intro src dst
  induction n generalizing j with
  | zero => exact stopsAt_nil _ _ _
  | succ n ih =>
    have honly := wordStep_iterate_dataOnly f1 f2 j s
    have hsrc : ((wordStep f1 f2)^[j] s).base + ((wordStep f1 f2)^[j] s).reg f1 = src j := by
      rw [honly.base, wordStep_iterate_reg, if_pos (.inl rfl), ← BitVec.add_assoc]
    have hdst : ((wordStep f1 f2)^[j] s).base + ((wordStep f1 f2)^[j] s).reg f2 = dst j := by
      rw [honly.base, wordStep_iterate_reg, if_pos (.inr rfl), ← BitVec.add_assoc]
    have hnext := ih (j + 1)
    rw [Function.iterate_succ_apply'] at hnext
    have hfirst : [s.dataWord (src j), .store s.dataPage (dst j) (((wordStep f1 f2)^[j] s).data (src j))] =
        [.word (.abs ((wordStep f1 f2)^[j] s).dataPage) (((wordStep f1 f2)^[j] s).base + ((wordStep f1 f2)^[j] s).reg f1),
          .store ((wordStep f1 f2)^[j] s).dataPage (((wordStep f1 f2)^[j] s).base + ((wordStep f1 f2)^[j] s).reg f2)
            (((wordStep f1 f2)^[j] s).data (((wordStep f1 f2)^[j] s).base + ((wordStep f1 f2)^[j] s).reg f1))] := by
      rw [hsrc, hdst, honly.dataPage]
      rfl
    rw [List.range'_succ, List.flatMap_cons, hfirst, moveWords, bind_assoc]
    refine stopsAt_load s _ _ _ _ _ _ honly.plat rfl fun _ => ?_
    rw [bind_assoc]
    exact stopsAt_store s _ _ _ _ _ _ _ honly.plat rfl fun _ => hnext

theorem stopsAt_moveMultiple (f1 f2 : RegNum) (s : State) : StopsAt s s.mem (s.moveTransfers f1 f2) (moveMultiple f1 f2 s) := by
  have hwords := stopsAt_moveWords f1 f2 s s.moveCount 0 fun t => pure t.finish
  refine hwords.of_eq ?_
  rw [State.moveTransfers, ← List.range_eq_range']
  refine congrArg (fun g => List.flatMap g _) (funext fun k => ?_)
  rw [State.data, (wordStep_iterate_dataOnly f1 f2 k s).dataPage, State.word, wordStep_iterate_mem]
  rfl

/-- The stores of STC C4 (R190). -/
theorem stopsAt_stackRegisters {s : State} {n : Nat} (hn : n ≤ 7) (u : State) (m : Memory) (f : State → Run State) (hplat : u.plat = s.plat)
    (hmem : u.mem = m) :
    StopsAt s m ((u.stackedWords n).map fun w => .store u.dataPage w.1 w.2) (stackRegisters (regsUpTo n).reverse u >>= f) := by
  have hfirst (u : State) (m : Memory) (r : RegNum) (rs : List RegNum) (ts : List Transfer) (hplat : u.plat = s.plat) (hmem : u.mem = m)
      (hrest : StopsAt s (m.writeWord (wordIndex u.dataPage (u.base + (u.reg 7 - 1) + u.mod)) ((u.setReg 7 (u.reg 7 - 1)).reg r)) ts
        (stackRegisters rs (u.stackedOne r) >>= f)) :
      StopsAt s m (.store u.dataPage (u.base + (u.reg 7 - 1) + u.mod) ((u.setReg 7 (u.reg 7 - 1)).reg r) :: ts)
        (stackRegisters (r :: rs) u >>= f) := by
    have hseven : (u.setReg 7 (u.reg 7 - 1)).reg 7 = u.reg 7 - 1 := by rw [State.setReg_reg, if_pos rfl]
    rw [stackRegisters, bind_assoc, hseven]
    exact stopsAt_store s (u.setReg 7 (u.reg 7 - 1)) m _ _ _ _ _ hplat hmem fun _ => hrest
  induction n generalizing u m with
  | zero =>
    have hzero : (u.setReg 7 (u.reg 7 - 1)).reg 0 = u.reg 0 := by rw [State.setReg_reg, if_neg (by decide)]
    rw [stackedWords_zero, ← hzero]
    exact hfirst u m 0 [] [] hplat hmem (stopsAt_nil _ _ _)
  | succ n ih =>
    rw [stackedWords_succ u hn, regsUpTo_reverse_succ]
    refine hfirst u m _ _ _ hplat hmem (ih (by omega) (u.stackedOne (BitVec.ofNat 3 (n + 1))) _ hplat ?_)
    rw [← hmem]
    rfl

theorem stopsAt_stackMany {s : State} {c : BitVec 4} : StopsAt s s.mem (s.stackTransfers c) (stackMany c s) := by
  unfold State.stackTransfers stackMany
  split
  · exact stopsAt_nil _ _ _
  · next hc =>
    obtain ⟨-, hn, hcount⟩ := count_of_eight_le (BitVec.not_lt.mp hc)
    refine (stopsAt_stackRegisters hn s s.mem _ rfl rfl).of_eq ?_
    rw [hcount, State.stackedWords, List.map_map]
    refine List.map_congr_left fun k hk => congrArg (Transfer.store _ _) ?_
    have hk : k < 15 - c.toNat + 1 := List.mem_range.mp (List.mem_reverse.mp hk)
    have hseven : BitVec.ofNat 3 k = 7 ↔ k = 7 := by
      rw [← BitVec.toNat_inj, BitVec.toNat_ofNat, Nat.mod_eq_of_lt (by omega)]
      rfl
    show _ = (s.setReg 7 (s.reg 7 - 1)).reg (BitVec.ofNat 3 k)
    rw [State.setReg_reg]
    exact if_congr hseven.symm rfl rfl

theorem stopsAt_unstackMany {s : State} {c : BitVec 4} :
    StopsAt s s.mem (if c < 8 then [] else ascending s.dataPage (s.base + s.reg 7 + s.mod) (16 - c.toNat)) (unstackMany c s) := by
  unfold unstackMany
  split
  · exact stopsAt_nil _ _ _
  · next hc =>
    obtain ⟨-, -, hcount⟩ := count_of_eight_le (BitVec.not_lt.mp hc)
    rw [hcount, ← regsUpTo_length (15 - c.toNat), ← List.append_nil (ascending _ _ _)]
    exact stopsAt_loadRegisters _ s (s.setReg 7 _) _ _ _ _ _ rfl rfl fun _ => stopsAt_nil _ _ _

/-! ### Process save and load -/

/-- The stores of a process save (R318). -/
theorem stopsAt_saveProcess {s : State} (u : State) (m : Memory) (p : Byte) (d cont : Word) (ts : List Transfer) (f : State → Run State)
    (hplat : u.plat = s.plat) (hmem : u.mem = m)
    (h : ∀ m', (u.processSaved p d cont).mem = m' → StopsAt s m' ts (f (u.processSaved p d cont))) :
    StopsAt s m (u.saveTransfers p d cont ++ ts) (u.saveProcess p d cont >>= f) := by
  have hsplit : u.saveTransfers p d cont ++ ts =
      ((u.descriptor cont).zipIdx.map fun x => .store p (d + BitVec.ofNat 16 x.2) x.1) ++
        (.store p (d - 2) u.level :: ((if u.level.toNat % 32768 = 0 then [.store p (d - 1) u.bound] else []) ++ ts)) := by
    rw [State.saveTransfers, List.append_assoc]
    rfl
  rw [hsplit, State.saveProcess, bind_assoc]
  refine stopsAt_storeWords _ s u m p d _ _ hplat hmem fun m' hm' => ?_
  rw [bind_assoc]
  refine stopsAt_store s _ m' p _ _ _ _ (by rw [storedWords_plat, hplat]) hm' fun _ => ?_
  unfold State.processSaved at h
  simp only [counterZero_iff] at h ⊢
  split
  · next hcounter =>
    rw [if_pos hcounter] at h
    refine stopsAt_store s _ _ p _ _ _ _ ?_ ?_ fun _ => h _ ?_
    · rw [State.putWord_plat, storedWords_plat, hplat]
    · rw [State.putWord_mem, hm']
    · rw [State.putWord_mem, State.putWord_mem, hm']
  · next hcounter =>
    rw [if_neg hcounter] at h
    exact h _ (by rw [State.putWord_mem, hm'])

theorem stopsAt_saveOwnProcess {s : State} {c : BitVec 4} :
    StopsAt s s.mem (s.saveTransfers s.dataPage s.base (s.pc + 1 + zext c)) (saveOwnProcess c s) := by
  rw [← List.append_nil (s.saveTransfers _ _ _)]
  exact stopsAt_saveProcess s _ _ _ _ _ _ rfl rfl fun _ _ => stopsAt_nil _ _ _

theorem stopsAt_nonMaskable {s : State} : StopsAt s s.mem s.nmiTransfers (nonMaskable s) := by
  unfold State.nmiTransfers nonMaskable
  rw [List.append_assoc]
  refine stopsAt_load s ((s.emit .issueNmi).clearModification) _ _ _ _ _ rfl rfl fun _ =>
    stopsAt_load s _ _ _ _ _ _ rfl rfl fun _ => ?_
  refine stopsAt_saveProcess ((s.emit .issueNmi).clearModification) _ _ _ _ _ _ rfl rfl fun m hm => ?_
  rw [processSaved_spm]
  exact stopsAt_store s _ _ _ _ _ _ _ (processSaved_plat _ _ _ _) hm fun _ =>
    stopsAt_lastStore s _ _ _ _ _ _ (processSaved_plat _ _ _ _) (by rw [State.putWord_mem, hm])

/-- Eight words, and the six after them. -/
theorem ascending_fourteen (p : Byte) (d : Word) :
    ascending p d 14 = ascending p d (regsUpTo 7).length ++ [.word (.abs p) (d + 8), .word (.abs p) (d + 9), .word (.abs p) (d + 10),
      .word (.abs p) (d + 11), .word (.abs p) (d + 12), .word (.abs p) (d + 13)] := rfl

/-- The reads of a process load (R322). -/
theorem stopsAt_loadProcess (s : State) (p : Byte) (d : Word) : StopsAt s s.mem (s.loadTransfers p d) (s.loadProcess p d) := by
  have hbound (u : State) (v : Word) (ts : List Transfer) (f : State → Run State) (hplat : u.plat = s.plat) (hmem : u.mem = s.mem)
      (hf : ∀ b, StopsAt s s.mem ts (f { u with level := v, bound := b })) :
      StopsAt s s.mem ((if v.toNat % 32768 = 0 then [.word (.abs p) (d - 1)] else []) ++ ts)
        ({ u with level := v }.loadBoundFrom p d >>= f) := by
    unfold State.loadBoundFrom
    simp only [counterZero_iff]
    split
    · rw [bind_assoc]
      exact stopsAt_load s { u with level := v } _ _ _ _ _ hplat hmem fun _ => hf _
    · exact hf _
  have hplat : ({ s with umap := insertBits s.umap 0 p }.bracketCache false).plat = s.plat := State.bracketCache_plat _ _
  have hmem : ({ s with umap := insertBits s.umap 0 p }.bracketCache false).mem = s.mem := State.bracketCache_mem _ _
  unfold State.loadTransfers State.loadProcess
  dsimp only
  generalize ({ s with umap := insertBits s.umap 0 p }.bracketCache false) = u at hplat hmem ⊢
  have hword : s.word p (d - 2) = u.word p (d - 2) := by rw [State.word, State.word, hmem]
  rw [List.append_assoc, ascending_fourteen, hword]
  refine stopsAt_load s u _ p _ _ _ hplat hmem fun _ => hbound u _ _ _ hplat hmem fun b => ?_
  refine stopsAt_loadRegisters _ s _ _ p d _ _ hplat hmem fun _ => ?_
  have hplat' := (loadedRegisters_plat (regsUpTo 7) { u with level := u.word p (d - 2), bound := b } p d).trans hplat
  have hmem' := (loadedRegisters_mem (regsUpTo 7) { u with level := u.word p (d - 2), bound := b } p d).trans hmem
  generalize loadedRegisters { u with level := u.word p (d - 2), bound := b } p d (regsUpTo 7) = t at hplat' hmem' ⊢
  exact stopsAt_load s t _ p _ _ _ hplat' hmem' fun _ => stopsAt_load s _ _ p _ _ _ hplat' hmem' fun _ =>
    stopsAt_load s _ _ p _ _ _ hplat' hmem' fun _ => stopsAt_load s _ _ p _ _ _ hplat' hmem' fun _ =>
    stopsAt_load s _ _ p _ _ _ hplat' hmem' fun _ => stopsAt_lastLoad hplat' hmem'

/-- Transfers that only read leave memory as it is. -/
theorem foldl_applied_words {ts : List Transfer} (h : ∀ x ∈ ts, ∃ sp a, x = .word sp a) (m : Memory) : ts.foldl Transfer.applied m = m := by
  induction ts with
  | nil => rfl
  | cons x ts ih =>
    obtain ⟨⟨sp, a, rfl⟩, hrest⟩ := List.forall_mem_cons.mp h
    exact ih hrest

theorem loadTransfers_words (s : State) (p : Byte) (d : Word) : ∀ x ∈ s.loadTransfers p d, ∃ sp a, x = .word sp a := by
  intro x hx
  rw [State.loadTransfers, List.mem_append, List.mem_append] at hx
  rcases hx with (hlevel | hbound) | hwords
  · exact ⟨_, _, List.mem_singleton.mp hlevel⟩
  · split at hbound
    · exact ⟨_, _, List.mem_singleton.mp hbound⟩
    · exact absurd hbound List.not_mem_nil
  · obtain ⟨k, -, rfl⟩ := List.mem_map.mp hwords
    exact ⟨_, _, rfl⟩

/-- A process load none of whose reads fails goes through. -/
theorem processReaches_of_firstFailure {s : State} {p : Byte} {d : Word} (h : s.firstFailure (s.loadTransfers p d) = none) :
    s.processReaches p d := by
  have hreach (a : Word) (ha : .word (.abs p) a ∈ s.loadTransfers p d) : s.reaches (.abs p) a :=
    (failure_word_none s _ _).mp (List.findSome?_eq_none_iff.mp h _ ha)
  unfold State.loadTransfers at hreach
  refine processReaches_of (hreach _ ?_) (fun hcounter => hreach _ ?_) fun n hn => hreach _ ?_
  · exact List.mem_append_left _ (List.mem_append_left _ (List.mem_singleton.mpr rfl))
  · rw [if_pos hcounter]
    exact List.mem_append_left _ (List.mem_append_right _ (List.mem_singleton.mpr rfl))
  · exact List.mem_append_right _ (List.mem_map.mpr ⟨n, List.mem_range.mpr hn, rfl⟩)

/-- The descriptor's address and page (R322). -/
theorem stopsAt_descriptorAt {s : State} {o : Operand} {ts : List Transfer} {f : Word × Byte → Run State}
    (h : StopsAt s s.mem ts (f (s.valueAt (o.loc s), lowByte (s.valueAt (o.loc s).succ)))) :
    StopsAt s s.mem (s.place (o.loc s) ++ (s.place (o.loc s).succ ++ ts)) (descriptorAt o s >>= f) := by
  unfold descriptorAt
  rw [bind_assoc]
  refine stopsAt_read s s _ _ _ _ rfl rfl rfl fun _ => ?_
  rw [bind_assoc]
  exact stopsAt_read s s _ _ _ _ rfl rfl rfl fun _ => h

theorem stopsAt_loadUnlinked {s : State} {o : Operand} : StopsAt s s.mem (s.unlinkedTransfers (o.loc s)) (loadUnlinked o s) := by
  rw [State.unlinkedTransfers, List.append_assoc]
  exact stopsAt_descriptorAt ((stopsAt_loadProcess s _ _).bind _)

theorem stopsAt_loadLinked {s : State} {o : Operand} : StopsAt s s.mem (s.linkedTransfers (o.loc s)) (loadLinked o s) := by
  rw [State.linkedTransfers, State.unlinkedTransfers, List.append_assoc, List.append_assoc]
  refine stopsAt_descriptorAt (stopsAt_bind (stopsAt_loadProcess s _ _) fun hnone => ?_)
  refine ⟨_, (loadProcess_ok s _ _ _).mpr ⟨processReaches_of_firstFailure hnone, rfl⟩, ?_⟩
  rw [foldl_applied_words (loadTransfers_words s _ _), State.storeData, processLoaded_dataPage, processLoaded_base]
  refine stopsAt_store s _ _ _ _ _ _ _ (processLoaded_plat _ _ _) (processLoaded_mem _ _ _) fun _ => ?_
  rw [State.storeData, State.putWord_dataPage, State.putWord_base, processLoaded_dataPage, processLoaded_base]
  exact stopsAt_lastStore s _ _ _ _ _ _ (processLoaded_plat _ _ _) (by rw [State.putWord_mem, processLoaded_mem])

/-! ### The alternative instructions without an error exit -/

section
variable {s : State} {o : Operand} {f1 f2 : RegNum}

theorem stopsAt_mapRead :
    StopsAt s s.mem (if s.plat.cpu = .type8 then [] else .word .mapMem (s.device f2) :: s.operand o) (mapRead o f2 s) := by
  unfold mapRead
  split
  · exact stopsAt_nil _ _ _
  · exact stopsAt_loadMap s s _ _ _ _ rfl rfl stopsAt_destination

theorem stopsAt_mapWrite :
    StopsAt s s.mem (if s.plat.cpu = .type8 then [] else s.operand o ++ [.word .mapMem (s.device f2)]) (mapWrite o f2 s) := by
  unfold mapWrite
  split
  · exact stopsAt_nil _ _ _
  · exact stopsAt_read s s _ _ _ _ rfl rfl rfl fun _ => stopsAt_lastStoreMap s s _ _ _ _ rfl rfl

theorem stopsAt_readSyndrome : StopsAt s s.mem [.word (.abs (s.pairPage f1)) (s.reg f1)] (readSyndrome f1 f2 s) := by
  refine stopsAt_word fun k hk => ⟨{ s with semBlock := false }, ?_, rfl⟩
  have hload := load_failed { s with semBlock := true } (s.pairPage f1) (s.reg f1) k hk
  have hbody := underSemaphore_failed s (fun u => u.load (s.pairPage f1) (s.reg f1) >>= fun w =>
    (u.setReg f2 (Config.syndrome (s.pairPage f1) (s.reg f1))).store (s.pairPage f1) (s.reg f1) w) k _ _ _ (by rw [hload, error_bind])
  exact (congrArg (fun x : Run State => x >>= fun t => pure (t.altReturn 1)) hbody :)

/-- ARED stops on a time-out only (R372, R387). -/
theorem stopsAt_readUncorrected : StopsAt s s.mem [.uncorrected (s.pairPage f1) (s.reg f1)] (readUncorrected f1 f2 s) := by
  refine stopsAt_cons s _ _ [] _ (fun k sp a hfailure => ?_) fun _ => stopsAt_nil _ _ _
  rw [Transfer.failure] at hfailure
  split at hfailure
  · next htimeout =>
    cases hfailure
    refine ⟨s, ?_, rfl⟩
    rw [readUncorrected, State.loadRaw, if_pos htimeout]
    rfl
  · cases hfailure

end

/-! ### Every instruction -/

/-- The instruction stops at the first of its transfers that fails (R384). -/
def StopsBefore (i : Instr) (s : State) : Prop :=
  ∀ k sp a, s.firstFailure (i.transfers s) = some (k, sp, a) →
    ∃ t, exec i s = .fault (.transferError k sp a t) ∧ t.mem = s.memoryAtFailure (i.transfers s)

section
variable {i : Instr} {s : State} {r : Run State} {ts : List Transfer}

theorem stopsBefore_of (he : exec i s = outcome r) (h : StopsAt s s.mem ts r) (hts : i.transfers s = ts) : StopsBefore i s := by
  intro k sp a hfailure
  rw [hts] at hfailure ⊢
  rw [he]
  exact stopsAt_outcome s ts r h k sp a hfailure

/-- Nothing is transferred whose failing is a transfer error. -/
theorem stopsBefore_of_nil (h : i.transfers s = []) : StopsBefore i s := by
  intro k sp a hfailure
  rw [h] at hfailure
  exact nomatch hfailure

end

end Sys2Proof.Machine
end

section
/-! PROOF. The step that stops before its instruction is done (R154, R330, R384): every instruction by its shared operation. -/

namespace Sys2Proof.Machine

/-- Every instruction stops at the first of its transfers that fails, and those with an error exit transfer nothing whose failing is a transfer
error. -/
theorem exec_stopsBefore (i : Instr) (s : State) : StopsBefore i s := by
  cases i
  -- registers only, no operand, a refusal or a trap, or an error exit
  case modcC8 | modcCn8 | mod4C8 | mod4Cn8 | mod8 | modR | modnR | movcC8R | movcCn8R | jmpL8 | jmpLn8 | jmpL10 | jmpLn10 | jmpS2L8 | jmpS2Ln8
    | jmpP6 | rpz | sob | jvnL4 | jvnLn4 | jonRL4 | jonRLn4 | jozRL4 | jozRLn4 | addcC8R | addcCn8R | incdRR | decdRR | invR | negR | swpR
    | dicpR | ddcpR | xtrRC | sltpRC | sgepRC | slopRC | shspRC | sltRC | sgeRC | sloRC | shsRC | snepRCn | snepRC | seqpRCn | seqpRC
    | sneRCn | sneRC | seqRCn | seqRC | sbnRC | sbzRC | sbnpRC | sbzpRC | srlRC | sraRC | sllRC | slcRC | srllRC | slllRC | setsRC | svsR
    | sssR | svtR | svlR | ldsR | slsR | ldtR | ldlR | cpuR | ldm | alt | cae | cad | tst | trp | aamow | lamow | almow | aamob | lamob | almob
    | amowLoad | amowStore | amobLoad | amobStore | aress | arels | drdR | drdX | dwrR | dwrX | rspR | wspR =>
    exact stopsBefore_of_nil rfl
  -- an operand read, and then nothing that fails
  case modX | modnX | sltpXC | sgepXC | slopXC | shspXC | sltXC | sgeXC | sloXC | shsXC | snepXCn | snepXC | seqpXCn | seqpXC | sneXCn
    | sneXC | seqXCn | seqXC | sbnXC | sbzXC | sbnpXC | sbzpXC | sozp | sonp | soz | son | srlXC | sraXC | sllXC | slcXC | dec | inc | invM
    | negM | swpM | sxt | xtrXC | setsXC | ldsM | slsM | ldtM | ldlM | cpuM | wspX | xor | div | addB6R | movB8R | movB6R =>
    exact stopsBefore_of rfl stopsAt_operand rfl
  case modB6 | modnB6 => exact stopsBefore_of rfl stopsAt_operand (by rw [State.operand, loc_disp_unmarked]; rfl)
  case modB8 | modnB8 => exact stopsBefore_of rfl stopsAt_operand (by rw [State.operand, loc_direct_unmarked]; rfl)
  case modP8 | modnP8 => exact stopsBefore_of rfl stopsAt_ownParameter rfl
  -- an operand written
  case movcC4X | movcCn4X | clr | svsM | sssM | svtM | svlM | rspX => exact stopsBefore_of rfl stopsAt_destination rfl
  -- two operands
  case movR | movX | movRB8 | movRB6 => exact stopsBefore_of rfl stopsAt_move rfl
  case addRR | adduRR | subRR | subuRR | andRR | iorRR | addRB6 | incdXM | decdXM | sltpRR | slopRR | sgepRR | shspRR | snepRR | seqpRR
    | sltRR | sloRR | sgeRR | shsRR | sneRR | seqRR | setsX | clrsX | xchX =>
    exact stopsBefore_of rfl stopsAt_operands rfl
  case setsR | clrsR | xchR => exact stopsBefore_of rfl stopsAt_operand rfl
  -- words of a program page, and words and bytes of the data page
  case movP8R | jmpiP8 | jmpiS2P8 | jpzi | mmp => exact stopsBefore_of rfl (stopsAt_lastLoad rfl rfl) rfl
  case mvp => exact stopsBefore_of rfl (stopsAt_lastLoad rfl rfl) (by rw [progAddress_indexed]; rfl)
  case jmpiB6 | jmpiB8 | lbr => exact stopsBefore_of rfl (stopsAt_lastLoad rfl rfl) rfl
  case movbLoad => exact stopsBefore_of rfl (stopsAt_loadByte s s _ _ _ [] _ rfl rfl fun _ => stopsAt_nil _ _ _) rfl
  case movbStore => exact stopsBefore_of rfl (stopsAt_lastStoreByte s s _ _ _ _ _ rfl rfl) rfl
  case movlLoad x d q =>
    refine stopsBefore_of rfl stopsAt_moveLongIn ?_
    rw [disp_address, add_zero]
    rfl
  case movlStore x d q =>
    refine stopsBefore_of rfl stopsAt_moveLongOut ?_
    rw [disp_address]
    rfl
  case xcu => exact stopsBefore_of rfl (stopsAt_lastLoad rfl rfl) (by rw [Instr.transfers, State.operand, loc_x3]; rfl)
  case xcui => exact stopsBefore_of rfl stopsAt_executeIndirect rfl
  -- multiple moves and exchanges
  case movm => exact stopsBefore_of rfl (stopsAt_moveMultiple _ _ s) rfl
  case putR => exact stopsBefore_of rfl stopsAt_put (by rw [Instr.transfers, State.operand, loc_x3]; rfl)
  case putX => exact stopsBefore_of rfl stopsAt_put (by rw [Instr.transfers, State.operand, State.operand, loc_x3, loc_x3]; rfl)
  case stcRM => exact stopsBefore_of rfl stopsAt_stackValue rfl
  case stcXM f1 f2 =>
    refine stopsBefore_of rfl stopsAt_stackValue ?_
    rw [State.operand, loc_x3, State.setReg_reg]
    rfl
  case stcC4 => exact stopsBefore_of rfl stopsAt_stackMany rfl
  case unsRM => exact stopsBefore_of rfl stopsAt_unstackValue (by rw [Instr.transfers, State.operand, loc_b0x3]; rfl)
  case unsXM => exact stopsBefore_of rfl stopsAt_unstackValue (by rw [Instr.transfers, State.operand, loc_b0x3]; rfl)
  case unsC4 => exact stopsBefore_of rfl stopsAt_unstackMany rfl
  -- arithmetic and shifts of two words
  case mul => exact stopsBefore_of rfl stopsAt_multiply rfl
  case dicpM | ddcpM => exact stopsBefore_of rfl (stopsAt_updatePair (loc_b0x3 s _)) rfl
  case srllXC | slllXC => exact stopsBefore_of rfl (stopsAt_shiftLong (loc_x3 s _)) rfl
  -- conditional jumps, semaphores, devices
  case jonXL4 | jonXLn4 | jozXL4 | jozXLn4 => exact stopsBefore_of rfl stopsAt_jumpOn rfl
  case rels => exact stopsBefore_of rfl stopsAt_release (by rw [Instr.transfers, State.operand, loc_x3]; rfl)
  case ress => exact stopsBefore_of rfl stopsAt_reserve (by rw [Instr.transfers, State.operand, loc_x3]; rfl)
  case sioR | rioR | sioX | rioX => exact stopsBefore_of rfl stopsAt_input rfl
  case cioR | wioR | cioX | wioX => exact stopsBefore_of rfl stopsAt_output rfl
  -- processes, monitor calls, NMI
  case svp => exact stopsBefore_of rfl stopsAt_saveOwnProcess rfl
  case ldnR => exact stopsBefore_of rfl stopsAt_loadUnlinked rfl
  case ldnM => exact stopsBefore_of rfl stopsAt_loadUnlinked (by rw [loc_b0x3]; rfl)
  case ldpR => exact stopsBefore_of rfl stopsAt_loadLinked rfl
  case ldpM => exact stopsBefore_of rfl stopsAt_loadLinked (by rw [loc_b0x3]; rfl)
  case mon => exact stopsBefore_of rfl stopsAt_monitorCall rfl
  case rtm => exact stopsBefore_of rfl stopsAt_leaveMonitor rfl
  case rtmi => exact stopsBefore_of rfl stopsAt_returnMonitorIndirect rfl
  case nmi => exact stopsBefore_of rfl stopsAt_nonMaskable rfl
  -- the maps and error correction
  case mrdR | mrdX => exact stopsBefore_of rfl stopsAt_mapRead rfl
  case mwrR | mwrX => exact stopsBefore_of rfl stopsAt_mapWrite rfl
  case arsc => exact stopsBefore_of rfl stopsAt_readSyndrome rfl
  case ared => exact stopsBefore_of rfl stopsAt_readUncorrected rfl

/-! ### The step -/

/-- A fetch that fails (R384). -/
theorem step_of_failing_fetch {s : State} {k : TransferKind} (hnmi : s.awaitingNmi = false) (hinstr : s.instr = none)
    (h : transferFailure s.plat (.abs s.progCur) s.pc = some k) : step s = .fault (.transferError k (.abs s.progCur) s.pc s) := by
  have hfetch : s.fetch = .error (.fault (.transferError k (.abs s.progCur) s.pc s)) := by
    rw [State.fetch, hinstr]
    exact load_failed s _ _ k h
  simp only [step, hnmi, Bool.false_eq_true, if_false, hfetch]
  rfl

/-- A word that no instruction of the active set has (R154). -/
theorem step_of_unassigned_word {s : State} (hnmi : s.awaitingNmi = false) (hinstr : s.instr = none)
    (hreach : s.reaches (.abs s.progCur) s.pc) (hdecode : decodeFor s.plat.cpu s.alt (s.word s.progCur s.pc) = none) :
    step s = .fault (.unassignedEncoding (s.word s.progCur s.pc) s) := by
  have hfetch : s.fetch = .ok (s.word s.progCur s.pc) := by
    rw [State.fetch, hinstr]
    exact load_reached s _ _ hreach
  have hnext : s.decodeNext (s.word s.progCur s.pc) = none := by
    simpa [State.decodeNext, State.alternativeNext, hinstr] using hdecode
  simp only [step, hnmi, Bool.false_eq_true, if_false, hfetch, hnext]

/-- Settles O5. -/
theorem stepStopsBeforeAnInstruction : Obligations.StepStopsBeforeAnInstruction := fun s =>
  ⟨fun hnmi => by rw [step, if_pos hnmi], fun hnmi hinstr _ hk => step_of_failing_fetch hnmi hinstr hk,
    fun hnmi hinstr hreach hdecode => step_of_unassigned_word hnmi hinstr hreach hdecode, fun i => exec_stopsBefore i s⟩

end Sys2Proof.Machine
end
